-- ==== Sys2Proof/Word.lean ====
section
/-! DEFINITION. The words of eBPF ISA v1.0: 64-bit register values, 32-bit halves and immediates,
8-bit bytes (`spec/00_scope.md` R6, R7, R10; `spec/10_state.md` R20, R23). -/

namespace Sys2Proof

/-- A `u64`: the value of a register, a data address (R20, R51). -/
abbrev Word := BitVec 64

/-- A `u32`: the low half of a register, an `imm` field (R23, R82). -/
abbrev Half := BitVec 32

/-- A `u8`: one cell of data memory, one byte of the program text (R51, R80). -/
abbrev Byte := BitVec 8

/-- `v[31:0]` of a 64-bit value (R10). -/
abbrev low32 (v : Word) : Half := v.setWidth 32

/-- `zext_64` of a 32-bit value (R10). -/
abbrev zext64 (v : Half) : Word := v.setWidth 64

/-- `sext_64` of a 32-bit immediate (R10, R93). -/
abbrev sext64 (v : Half) : Word := v.signExtend 64

end Sys2Proof
end

