-- ==== Sys2Proof/Syntax.lean ====
section
/-! DEFINITION. The syntax of eBPF ISA v1.0: register names, the slots of a program, and one
constructor of `Instr` per row of `spec/opcode_table.json`, with the operands of the row's rule. -/

namespace Sys2Proof

/-- The eleven registers (`10_state.md` R20). -/
inductive Reg where
  | r0 | r1 | r2 | r3 | r4 | r5 | r6 | r7 | r8 | r9 | r10
deriving DecidableEq, Repr

/-- A 64-bit slot of the program: its 8 bytes, lowest address first (`30_encoding.md` R80, R81). -/
structure Slot where
  b0 : Byte
  b1 : Byte
  b2 : Byte
  b3 : Byte
  b4 : Byte
  b5 : Byte
  b6 : Byte
  b7 : Byte
deriving DecidableEq, Repr

/-- The instructions. `dst` and `src` are the registers the fields `dst_reg` and `src_reg` name,
`offset`, `imm` and `nextImm` the raw fields (`30_encoding.md` R82, R88). The legacy packet access
instructions keep their register fields as bare bits: the spec gives them no meaning (R325). -/
inductive Instr where
  -- 32-bit arithmetic (`40_alu32.md`)
  /-- `ADD32_K` (R121): 32-bit add, immediate operand. -/
  | add32K (dst : Reg) (imm : Half)
  /-- `ADD32_X` (R122): 32-bit add, register operand. -/
  | add32X (dst src : Reg)
  /-- `SUB32_K` (R123): 32-bit subtract, immediate operand. -/
  | sub32K (dst : Reg) (imm : Half)
  /-- `SUB32_X` (R124): 32-bit subtract, register operand. -/
  | sub32X (dst src : Reg)
  /-- `MUL32_K` (R125): 32-bit multiply, immediate operand. -/
  | mul32K (dst : Reg) (imm : Half)
  /-- `MUL32_X` (R126): 32-bit multiply, register operand. -/
  | mul32X (dst src : Reg)
  /-- `DIV32_K` (R127): 32-bit unsigned divide, immediate operand. -/
  | div32K (dst : Reg) (imm : Half)
  /-- `DIV32_X` (R128): 32-bit unsigned divide, register operand. -/
  | div32X (dst src : Reg)
  /-- `OR32_K` (R129): 32-bit bitwise or, immediate operand. -/
  | or32K (dst : Reg) (imm : Half)
  /-- `OR32_X` (R130): 32-bit bitwise or, register operand. -/
  | or32X (dst src : Reg)
  /-- `AND32_K` (R131): 32-bit bitwise and, immediate operand. -/
  | and32K (dst : Reg) (imm : Half)
  /-- `AND32_X` (R132): 32-bit bitwise and, register operand. -/
  | and32X (dst src : Reg)
  /-- `LSH32_K` (R133): 32-bit shift left, immediate operand. -/
  | lsh32K (dst : Reg) (imm : Half)
  /-- `LSH32_X` (R134): 32-bit shift left, register operand. -/
  | lsh32X (dst src : Reg)
  /-- `RSH32_K` (R135): 32-bit logical shift right, immediate operand. -/
  | rsh32K (dst : Reg) (imm : Half)
  /-- `RSH32_X` (R136): 32-bit logical shift right, register operand. -/
  | rsh32X (dst src : Reg)
  /-- `NEG32` (R137): 32-bit negate. -/
  | neg32 (dst : Reg)
  /-- `MOD32_K` (R138): 32-bit unsigned remainder, immediate operand. -/
  | mod32K (dst : Reg) (imm : Half)
  /-- `MOD32_X` (R139): 32-bit unsigned remainder, register operand. -/
  | mod32X (dst src : Reg)
  /-- `XOR32_K` (R140): 32-bit bitwise exclusive or, immediate operand. -/
  | xor32K (dst : Reg) (imm : Half)
  /-- `XOR32_X` (R141): 32-bit bitwise exclusive or, register operand. -/
  | xor32X (dst src : Reg)
  /-- `MOV32_K` (R142): 32-bit move, immediate operand. -/
  | mov32K (dst : Reg) (imm : Half)
  /-- `MOV32_X` (R143): 32-bit move, register operand. -/
  | mov32X (dst src : Reg)
  /-- `ARSH32_K` (R144): 32-bit arithmetic (sign extending) shift right, immediate operand. -/
  | arsh32K (dst : Reg) (imm : Half)
  /-- `ARSH32_X` (R145): 32-bit arithmetic (sign extending) shift right, register operand. -/
  | arsh32X (dst src : Reg)
  -- 64-bit arithmetic (`41_alu64.md`)
  /-- `ADD64_K` (R151): 64-bit add, immediate operand. -/
  | add64K (dst : Reg) (imm : Half)
  /-- `ADD64_X` (R152): 64-bit add, register operand. -/
  | add64X (dst src : Reg)
  /-- `SUB64_K` (R153): 64-bit subtract, immediate operand. -/
  | sub64K (dst : Reg) (imm : Half)
  /-- `SUB64_X` (R154): 64-bit subtract, register operand. -/
  | sub64X (dst src : Reg)
  /-- `MUL64_K` (R155): 64-bit multiply, immediate operand. -/
  | mul64K (dst : Reg) (imm : Half)
  /-- `MUL64_X` (R156): 64-bit multiply, register operand. -/
  | mul64X (dst src : Reg)
  /-- `DIV64_K` (R157): 64-bit unsigned divide, immediate operand. -/
  | div64K (dst : Reg) (imm : Half)
  /-- `DIV64_X` (R158): 64-bit unsigned divide, register operand. -/
  | div64X (dst src : Reg)
  /-- `OR64_K` (R159): 64-bit bitwise or, immediate operand. -/
  | or64K (dst : Reg) (imm : Half)
  /-- `OR64_X` (R160): 64-bit bitwise or, register operand. -/
  | or64X (dst src : Reg)
  /-- `AND64_K` (R161): 64-bit bitwise and, immediate operand. -/
  | and64K (dst : Reg) (imm : Half)
  /-- `AND64_X` (R162): 64-bit bitwise and, register operand. -/
  | and64X (dst src : Reg)
  /-- `LSH64_K` (R163): 64-bit shift left, immediate operand. -/
  | lsh64K (dst : Reg) (imm : Half)
  /-- `LSH64_X` (R164): 64-bit shift left, register operand. -/
  | lsh64X (dst src : Reg)
  /-- `RSH64_K` (R165): 64-bit logical shift right, immediate operand. -/
  | rsh64K (dst : Reg) (imm : Half)
  /-- `RSH64_X` (R166): 64-bit logical shift right, register operand. -/
  | rsh64X (dst src : Reg)
  /-- `NEG64` (R167): 64-bit negate. -/
  | neg64 (dst : Reg)
  /-- `MOD64_K` (R168): 64-bit unsigned remainder, immediate operand. -/
  | mod64K (dst : Reg) (imm : Half)
  /-- `MOD64_X` (R169): 64-bit unsigned remainder, register operand. -/
  | mod64X (dst src : Reg)
  /-- `XOR64_K` (R170): 64-bit bitwise exclusive or, immediate operand. -/
  | xor64K (dst : Reg) (imm : Half)
  /-- `XOR64_X` (R171): 64-bit bitwise exclusive or, register operand. -/
  | xor64X (dst src : Reg)
  /-- `MOV64_K` (R172): 64-bit move, immediate operand. -/
  | mov64K (dst : Reg) (imm : Half)
  /-- `MOV64_X` (R173): 64-bit move, register operand. -/
  | mov64X (dst src : Reg)
  /-- `ARSH64_K` (R174): 64-bit arithmetic (sign extending) shift right, immediate operand. -/
  | arsh64K (dst : Reg) (imm : Half)
  /-- `ARSH64_X` (R175): 64-bit arithmetic (sign extending) shift right, register operand. -/
  | arsh64X (dst src : Reg)
  -- byte swap (`42_byteswap.md`)
  /-- `LE16` (R181): convert the low 16 bits of a register between host byte order and little-endian. -/
  | le16 (dst : Reg)
  /-- `LE32` (R182): convert the low 32 bits of a register between host byte order and little-endian. -/
  | le32 (dst : Reg)
  /-- `LE64` (R183): convert a register between host byte order and little-endian. -/
  | le64 (dst : Reg)
  /-- `BE16` (R184): convert the low 16 bits of a register between host byte order and big-endian. -/
  | be16 (dst : Reg)
  /-- `BE32` (R185): convert the low 32 bits of a register between host byte order and big-endian. -/
  | be32 (dst : Reg)
  /-- `BE64` (R186): convert a register between host byte order and big-endian. -/
  | be64 (dst : Reg)
  -- jumps with 64-bit operands (`43_jump64.md`)
  /-- `JA` (R191): jump always. -/
  | ja (offset : BitVec 16)
  /-- `JEQ_K` (R192): jump if equal, 64-bit operands, against an immediate. -/
  | jeqK (dst : Reg) (offset : BitVec 16) (imm : Half)
  /-- `JEQ_X` (R193): jump if equal, 64-bit operands, against a register. -/
  | jeqX (dst src : Reg) (offset : BitVec 16)
  /-- `JGT_K` (R194): jump if greater than, unsigned, 64-bit operands, against an immediate. -/
  | jgtK (dst : Reg) (offset : BitVec 16) (imm : Half)
  /-- `JGT_X` (R195): jump if greater than, unsigned, 64-bit operands, against a register. -/
  | jgtX (dst src : Reg) (offset : BitVec 16)
  /-- `JGE_K` (R196): jump if greater than or equal, unsigned, 64-bit operands, against an immediate. -/
  | jgeK (dst : Reg) (offset : BitVec 16) (imm : Half)
  /-- `JGE_X` (R197): jump if greater than or equal, unsigned, 64-bit operands, against a register. -/
  | jgeX (dst src : Reg) (offset : BitVec 16)
  /-- `JSET_K` (R198): jump if any common bit set, 64-bit operands, against an immediate. -/
  | jsetK (dst : Reg) (offset : BitVec 16) (imm : Half)
  /-- `JSET_X` (R199): jump if any common bit set, 64-bit operands, against a register. -/
  | jsetX (dst src : Reg) (offset : BitVec 16)
  /-- `JNE_K` (R200): jump if not equal, 64-bit operands, against an immediate. -/
  | jneK (dst : Reg) (offset : BitVec 16) (imm : Half)
  /-- `JNE_X` (R201): jump if not equal, 64-bit operands, against a register. -/
  | jneX (dst src : Reg) (offset : BitVec 16)
  /-- `JSGT_K` (R202): jump if greater than, signed, 64-bit operands, against an immediate. -/
  | jsgtK (dst : Reg) (offset : BitVec 16) (imm : Half)
  /-- `JSGT_X` (R203): jump if greater than, signed, 64-bit operands, against a register. -/
  | jsgtX (dst src : Reg) (offset : BitVec 16)
  /-- `JSGE_K` (R204): jump if greater than or equal, signed, 64-bit operands, against an immediate. -/
  | jsgeK (dst : Reg) (offset : BitVec 16) (imm : Half)
  /-- `JSGE_X` (R205): jump if greater than or equal, signed, 64-bit operands, against a register. -/
  | jsgeX (dst src : Reg) (offset : BitVec 16)
  /-- `JLT_K` (R206): jump if less than, unsigned, 64-bit operands, against an immediate. -/
  | jltK (dst : Reg) (offset : BitVec 16) (imm : Half)
  /-- `JLT_X` (R207): jump if less than, unsigned, 64-bit operands, against a register. -/
  | jltX (dst src : Reg) (offset : BitVec 16)
  /-- `JLE_K` (R208): jump if less than or equal, unsigned, 64-bit operands, against an immediate. -/
  | jleK (dst : Reg) (offset : BitVec 16) (imm : Half)
  /-- `JLE_X` (R209): jump if less than or equal, unsigned, 64-bit operands, against a register. -/
  | jleX (dst src : Reg) (offset : BitVec 16)
  /-- `JSLT_K` (R210): jump if less than, signed, 64-bit operands, against an immediate. -/
  | jsltK (dst : Reg) (offset : BitVec 16) (imm : Half)
  /-- `JSLT_X` (R211): jump if less than, signed, 64-bit operands, against a register. -/
  | jsltX (dst src : Reg) (offset : BitVec 16)
  /-- `JSLE_K` (R212): jump if less than or equal, signed, 64-bit operands, against an immediate. -/
  | jsleK (dst : Reg) (offset : BitVec 16) (imm : Half)
  /-- `JSLE_X` (R213): jump if less than or equal, signed, 64-bit operands, against a register. -/
  | jsleX (dst src : Reg) (offset : BitVec 16)
  -- jumps with 32-bit operands (`44_jump32.md`)
  /-- `JEQ32_K` (R221): jump if equal, 32-bit operands, against an immediate. -/
  | jeq32K (dst : Reg) (offset : BitVec 16) (imm : Half)
  /-- `JEQ32_X` (R222): jump if equal, 32-bit operands, against a register. -/
  | jeq32X (dst src : Reg) (offset : BitVec 16)
  /-- `JGT32_K` (R223): jump if greater than, unsigned, 32-bit operands, against an immediate. -/
  | jgt32K (dst : Reg) (offset : BitVec 16) (imm : Half)
  /-- `JGT32_X` (R224): jump if greater than, unsigned, 32-bit operands, against a register. -/
  | jgt32X (dst src : Reg) (offset : BitVec 16)
  /-- `JGE32_K` (R225): jump if greater than or equal, unsigned, 32-bit operands, against an immediate. -/
  | jge32K (dst : Reg) (offset : BitVec 16) (imm : Half)
  /-- `JGE32_X` (R226): jump if greater than or equal, unsigned, 32-bit operands, against a register. -/
  | jge32X (dst src : Reg) (offset : BitVec 16)
  /-- `JSET32_K` (R227): jump if any common bit set, 32-bit operands, against an immediate. -/
  | jset32K (dst : Reg) (offset : BitVec 16) (imm : Half)
  /-- `JSET32_X` (R228): jump if any common bit set, 32-bit operands, against a register. -/
  | jset32X (dst src : Reg) (offset : BitVec 16)
  /-- `JNE32_K` (R229): jump if not equal, 32-bit operands, against an immediate. -/
  | jne32K (dst : Reg) (offset : BitVec 16) (imm : Half)
  /-- `JNE32_X` (R230): jump if not equal, 32-bit operands, against a register. -/
  | jne32X (dst src : Reg) (offset : BitVec 16)
  /-- `JSGT32_K` (R231): jump if greater than, signed, 32-bit operands, against an immediate. -/
  | jsgt32K (dst : Reg) (offset : BitVec 16) (imm : Half)
  /-- `JSGT32_X` (R232): jump if greater than, signed, 32-bit operands, against a register. -/
  | jsgt32X (dst src : Reg) (offset : BitVec 16)
  /-- `JSGE32_K` (R233): jump if greater than or equal, signed, 32-bit operands, against an immediate. -/
  | jsge32K (dst : Reg) (offset : BitVec 16) (imm : Half)
  /-- `JSGE32_X` (R234): jump if greater than or equal, signed, 32-bit operands, against a register. -/
  | jsge32X (dst src : Reg) (offset : BitVec 16)
  /-- `JLT32_K` (R235): jump if less than, unsigned, 32-bit operands, against an immediate. -/
  | jlt32K (dst : Reg) (offset : BitVec 16) (imm : Half)
  /-- `JLT32_X` (R236): jump if less than, unsigned, 32-bit operands, against a register. -/
  | jlt32X (dst src : Reg) (offset : BitVec 16)
  /-- `JLE32_K` (R237): jump if less than or equal, unsigned, 32-bit operands, against an immediate. -/
  | jle32K (dst : Reg) (offset : BitVec 16) (imm : Half)
  /-- `JLE32_X` (R238): jump if less than or equal, unsigned, 32-bit operands, against a register. -/
  | jle32X (dst src : Reg) (offset : BitVec 16)
  /-- `JSLT32_K` (R239): jump if less than, signed, 32-bit operands, against an immediate. -/
  | jslt32K (dst : Reg) (offset : BitVec 16) (imm : Half)
  /-- `JSLT32_X` (R240): jump if less than, signed, 32-bit operands, against a register. -/
  | jslt32X (dst src : Reg) (offset : BitVec 16)
  /-- `JSLE32_K` (R241): jump if less than or equal, signed, 32-bit operands, against an immediate. -/
  | jsle32K (dst : Reg) (offset : BitVec 16) (imm : Half)
  /-- `JSLE32_X` (R242): jump if less than or equal, signed, 32-bit operands, against a register. -/
  | jsle32X (dst src : Reg) (offset : BitVec 16)
  -- calls and exit (`45_call_exit.md`)
  /-- `CALL_HELPER` (R247): call a platform-agnostic helper function. -/
  | callHelper (imm : Half)
  /-- `CALL_LOCAL` (R249): call a BPF-local function. -/
  | callLocal (offset : BitVec 16) (imm : Half)
  /-- `CALL_HELPER_SPECIFIC` (R250): call a platform-specific helper function. -/
  | callHelperSpecific (imm : Half)
  /-- `EXIT` (R251): return from a BPF-local function, or end the program. -/
  | exit
  -- loads and stores (`46_load_store.md`)
  /-- `LDXW` (R261): load 4 bytes from memory into a register, zero-extended. -/
  | ldxw (dst src : Reg) (offset : BitVec 16)
  /-- `LDXH` (R262): load 2 bytes from memory into a register, zero-extended. -/
  | ldxh (dst src : Reg) (offset : BitVec 16)
  /-- `LDXB` (R263): load 1 byte from memory into a register, zero-extended. -/
  | ldxb (dst src : Reg) (offset : BitVec 16)
  /-- `LDXDW` (R264): load 8 bytes from memory into a register. -/
  | ldxdw (dst src : Reg) (offset : BitVec 16)
  /-- `STW` (R265): store an immediate to 4 bytes of memory. -/
  | stw (dst : Reg) (offset : BitVec 16) (imm : Half)
  /-- `STH` (R266): store an immediate to 2 bytes of memory. -/
  | sth (dst : Reg) (offset : BitVec 16) (imm : Half)
  /-- `STB` (R267): store an immediate to 1 byte of memory. -/
  | stb (dst : Reg) (offset : BitVec 16) (imm : Half)
  /-- `STDW` (R268): store an immediate to 8 bytes of memory. -/
  | stdw (dst : Reg) (offset : BitVec 16) (imm : Half)
  /-- `STXW` (R269): store the low 4 bytes of a register to memory. -/
  | stxw (dst src : Reg) (offset : BitVec 16)
  /-- `STXH` (R270): store the low 2 bytes of a register to memory. -/
  | stxh (dst src : Reg) (offset : BitVec 16)
  /-- `STXB` (R271): store the low 1 byte of a register to memory. -/
  | stxb (dst src : Reg) (offset : BitVec 16)
  /-- `STXDW` (R272): store a register to 8 bytes of memory. -/
  | stxdw (dst src : Reg) (offset : BitVec 16)
  -- atomic operations (`47_atomic.md`)
  /-- `ATOMIC_ADD32` (R281): 32-bit atomic add. -/
  | atomicAdd32 (dst src : Reg) (offset : BitVec 16)
  /-- `ATOMIC_FETCH_ADD32` (R282): 32-bit atomic add, returning the old value. -/
  | atomicFetchAdd32 (dst src : Reg) (offset : BitVec 16)
  /-- `ATOMIC_OR32` (R283): 32-bit atomic or. -/
  | atomicOr32 (dst src : Reg) (offset : BitVec 16)
  /-- `ATOMIC_FETCH_OR32` (R284): 32-bit atomic or, returning the old value. -/
  | atomicFetchOr32 (dst src : Reg) (offset : BitVec 16)
  /-- `ATOMIC_AND32` (R285): 32-bit atomic and. -/
  | atomicAnd32 (dst src : Reg) (offset : BitVec 16)
  /-- `ATOMIC_FETCH_AND32` (R286): 32-bit atomic and, returning the old value. -/
  | atomicFetchAnd32 (dst src : Reg) (offset : BitVec 16)
  /-- `ATOMIC_XOR32` (R287): 32-bit atomic exclusive or. -/
  | atomicXor32 (dst src : Reg) (offset : BitVec 16)
  /-- `ATOMIC_FETCH_XOR32` (R288): 32-bit atomic exclusive or, returning the old value. -/
  | atomicFetchXor32 (dst src : Reg) (offset : BitVec 16)
  /-- `ATOMIC_XCHG32` (R289): 32-bit atomic exchange. -/
  | atomicXchg32 (dst src : Reg) (offset : BitVec 16)
  /-- `ATOMIC_CMPXCHG32` (R290): 32-bit atomic compare and exchange. -/
  | atomicCmpxchg32 (dst src : Reg) (offset : BitVec 16)
  /-- `ATOMIC_ADD64` (R291): 64-bit atomic add. -/
  | atomicAdd64 (dst src : Reg) (offset : BitVec 16)
  /-- `ATOMIC_FETCH_ADD64` (R292): 64-bit atomic add, returning the old value. -/
  | atomicFetchAdd64 (dst src : Reg) (offset : BitVec 16)
  /-- `ATOMIC_OR64` (R293): 64-bit atomic or. -/
  | atomicOr64 (dst src : Reg) (offset : BitVec 16)
  /-- `ATOMIC_FETCH_OR64` (R294): 64-bit atomic or, returning the old value. -/
  | atomicFetchOr64 (dst src : Reg) (offset : BitVec 16)
  /-- `ATOMIC_AND64` (R295): 64-bit atomic and. -/
  | atomicAnd64 (dst src : Reg) (offset : BitVec 16)
  /-- `ATOMIC_FETCH_AND64` (R296): 64-bit atomic and, returning the old value. -/
  | atomicFetchAnd64 (dst src : Reg) (offset : BitVec 16)
  /-- `ATOMIC_XOR64` (R297): 64-bit atomic exclusive or. -/
  | atomicXor64 (dst src : Reg) (offset : BitVec 16)
  /-- `ATOMIC_FETCH_XOR64` (R298): 64-bit atomic exclusive or, returning the old value. -/
  | atomicFetchXor64 (dst src : Reg) (offset : BitVec 16)
  /-- `ATOMIC_XCHG64` (R299): 64-bit atomic exchange. -/
  | atomicXchg64 (dst src : Reg) (offset : BitVec 16)
  /-- `ATOMIC_CMPXCHG64` (R300): 64-bit atomic compare and exchange. -/
  | atomicCmpxchg64 (dst src : Reg) (offset : BitVec 16)
  -- 64-bit immediate instructions, wide (`48_lddw.md`)
  /-- `LDDW` (R311): load a 64-bit constant. -/
  | lddw (dst : Reg) (imm nextImm : Half)
  /-- `LD_MAP_FD` (R312): load the address of the map object with a given file descriptor. -/
  | ldMapFd (dst : Reg) (imm : Half)
  /-- `LD_MAP_VALUE_FD` (R313): load the address of a byte in the value area of the map with a given file descriptor. -/
  | ldMapValueFd (dst : Reg) (imm nextImm : Half)
  /-- `LD_VAR_ADDR` (R314): load the address of a platform variable. -/
  | ldVarAddr (dst : Reg) (imm : Half)
  /-- `LD_CODE_ADDR` (R315): load the address of an instruction of the program. -/
  | ldCodeAddr (dst : Reg) (imm : Half)
  /-- `LD_MAP_IDX` (R316): load the address of the map object with a given index. -/
  | ldMapIdx (dst : Reg) (imm : Half)
  /-- `LD_MAP_VALUE_IDX` (R317): load the address of a byte in the value area of the map with a given index. -/
  | ldMapValueIdx (dst : Reg) (imm nextImm : Half)
  -- legacy packet access (`49_legacy_packet.md`)
  /-- `LD_ABS_W` (R326): legacy packet access, absolute, size W (4 bytes). -/
  | ldAbsW (dst src : BitVec 4) (offset : BitVec 16) (imm : Half)
  /-- `LD_ABS_H` (R327): legacy packet access, absolute, size H (2 bytes). -/
  | ldAbsH (dst src : BitVec 4) (offset : BitVec 16) (imm : Half)
  /-- `LD_ABS_B` (R328): legacy packet access, absolute, size B (1 byte). -/
  | ldAbsB (dst src : BitVec 4) (offset : BitVec 16) (imm : Half)
  /-- `LD_ABS_DW` (R329): legacy packet access, absolute, size DW (8 bytes). -/
  | ldAbsDw (dst src : BitVec 4) (offset : BitVec 16) (imm : Half)
  /-- `LD_IND_W` (R330): legacy packet access, indirect, size W (4 bytes). -/
  | ldIndW (dst src : BitVec 4) (offset : BitVec 16) (imm : Half)
  /-- `LD_IND_H` (R331): legacy packet access, indirect, size H (2 bytes). -/
  | ldIndH (dst src : BitVec 4) (offset : BitVec 16) (imm : Half)
  /-- `LD_IND_B` (R332): legacy packet access, indirect, size B (1 byte). -/
  | ldIndB (dst src : BitVec 4) (offset : BitVec 16) (imm : Half)
  /-- `LD_IND_DW` (R333): legacy packet access, indirect, size DW (8 bytes). -/
  | ldIndDw (dst src : BitVec 4) (offset : BitVec 16) (imm : Half)
deriving DecidableEq, Repr

end Sys2Proof
end

