-- ==== Sys2Proof/Config.lean ====
section
/-! DEFINITION. The configuration record `cfg` of `00_scope.md` R5: everything the spec leaves to the
platform, as plain data, with the conditions the spec puts on it, and the platform's answers that
the spec does not determine. -/

namespace Sys2Proof

/-- `cfg.ENDIAN`: the byte order of the encoding, of the byte swaps and of data (R81, R83, R180, R56). -/
inductive Endian where
  | little | big
deriving DecidableEq, Repr

/-- `cfg.ALIGN_POLICY` for plain loads and stores (`20_memory.md` R59). -/
inductive AlignPolicy where
  | strict | any
deriving DecidableEq, Repr

/-- `cfg.SHIFT_OVERSIZE` (`40_alu32.md` R146). -/
inductive ShiftPolicy where
  | fault | mask
deriving DecidableEq, Repr

/-- `cfg.CALLEE_SAVED`: who preserves R6 to R9 across a BPF-local call (`10_state.md` R36). -/
inductive CalleeSaved where
  | check | machine
deriving DecidableEq, Repr

/-- `cfg.LOCAL_CALL_FIELD`: the field a BPF-local call takes its displacement from (R249). -/
inductive LocalCallField where
  | offset | imm
deriving DecidableEq, Repr

/-- The two numbering spaces of helper functions (R247, R250). -/
inductive HelperSpace where
  | agnostic | specific
deriving DecidableEq, Repr

/-- What one of R0 to R9 holds: a 64-bit value, or the mark `unwritten` (`10_state.md` R27). The mark
is the spec's own state: a call leaves it behind (R28), and reading it is a fault. -/
inductive RegCell where
  | value (v : Word)
  | unwritten
deriving DecidableEq, Repr, Inhabited

/-- A region of data memory a program may access: the bytes `[base, base + size)` (`20_memory.md` R52). -/
structure Region where
  base : Word
  size : Word
  readable : Bool
  writable : Bool
  shared : Bool
deriving DecidableEq, Repr, Inhabited

/-- Why a slot does not decode (`60_exceptions.md` R341, reasons 2a to 2i). -/
inductive DecodeReason where
  | reservedOpcode
  | reservedSubOpcode
  | truncatedWide
  | badSecondSlot
  | nonZeroUnusedField
  | badRegister
  | writeToR10
  | legacyPacketUnsupported
  | negativeNextImm
deriving DecidableEq, Repr, Inhabited

end Sys2Proof

/-! ### The shape of the machine's state, which the platform's functions take (`10_state.md` R40) -/

namespace Sys2Proof.Machine

open Sys2Proof

/-- The registers. R0 to R9 are cells; R10 is always written (`10_state.md` R20, R27). -/
structure RegFile where
  r0 : RegCell
  r1 : RegCell
  r2 : RegCell
  r3 : RegCell
  r4 : RegCell
  r5 : RegCell
  r6 : RegCell
  r7 : RegCell
  r8 : RegCell
  r9 : RegCell
  r10 : Word
deriving DecidableEq, Repr, Inhabited

/-- A record of the call stack: the slot to return to, the caller's R10 and the caller's cells of R6
to R9 (`10_state.md` R36). -/
structure Frame where
  ret : Nat
  fp : Word
  saved6 : RegCell
  saved7 : RegCell
  saved8 : RegCell
  saved9 : RegCell
deriving DecidableEq, Repr

/-- What an access to data memory is for (`20_memory.md` R55). -/
inductive AccessKind where
  | read | write | atomic
deriving DecidableEq, Repr

/-- The faults of the spec with what each records: the twelve lines of `60_exceptions.md` R341. -/
inductive FaultInfo where
  /-- 1: `PcOutOfRange`, the pc or the negative target. -/
  | pcOutOfRange (pc : Int)
  /-- 2: `IllegalInstruction`, the pc and the reason (2a to 2i). -/
  | illegalInstruction (pc : Nat) (reason : DecodeReason)
  /-- 3: `UnwrittenRegister`, the register. -/
  | unwrittenRegister (r : Reg)
  /-- 4: `ShiftOversize`, the count, read as unsigned. -/
  | shiftOversize (count : Nat)
  /-- 5: `MemoryFault`, the effective address, the number of bytes, the kind of access. -/
  | memoryFault (ea : Word) (n : Nat) (kind : AccessKind)
  /-- 6: `UninitialisedRead`, the effective address and the number of bytes. -/
  | uninitialisedRead (ea : Word) (n : Nat)
  /-- 7: `UnknownHelper`, the numbering space and the number. -/
  | unknownHelper (space : HelperSpace) (number : Int)
  /-- 8: `HelperFault`, the number and the helper's own information. -/
  | helperFault (number : Int) (info : Nat)
  /-- 9: `CallDepthExceeded`. -/
  | callDepthExceeded
  /-- 10: `CalleeSavedClobbered`, the register, one of R6 to R9. -/
  | calleeSavedClobbered (r : Reg)
  /-- 11: `UnsupportedFeature`, the sub-opcode 1 to 6. -/
  | unsupportedFeature (sub : Nat)
  /-- 12: `BadPlatformReference`, the sub-opcode and `imm` as the signed integer of `30_encoding.md` R82. -/
  | badPlatformReference (sub : Nat) (imm : Int)
deriving DecidableEq, Repr, Inhabited

/-- The run status (`10_state.md` R37). -/
inductive Status where
  | running
  | exited (v : Word)
  | faulted (info : FaultInfo)
deriving DecidableEq, Repr

/-- Data memory: the bytes that hold a value, as (address, byte) pairs with strictly rising addresses
below 2^64. An address that is not listed is `unwritten` (`20_memory.md` R51, R58; log 6). -/
abbrev Memory := List Host.Cell

/-- The whole architectural state, the tuple of `10_state.md` R40: what `cfg.LEGACY_PACKET` is a function
of, beside the instruction's fields (`49_legacy_packet.md` R325). `regions` holds the live stack frames
too. -/
structure ArchState where
  regs : RegFile
  pc : Nat
  frames : List Frame
  status : Status
  mem : Memory
  regions : List Region
deriving DecidableEq, Repr

/-- What a legacy packet access instruction hands to `cfg.LEGACY_PACKET` of itself (`49_legacy_packet.md`
R325): its five fields. -/
structure LegacyFields where
  opcode : BitVec 8
  dst : BitVec 4
  src : BitVec 4
  offset : BitVec 16
  imm : Half
deriving DecidableEq, Repr

end Sys2Proof.Machine

namespace Sys2Proof

open Sys2Proof.Machine

/-! ### The platform's functions -/

/-- One change to one byte of data memory: a value, or `none` for `unwritten` (R248, R58). -/
structure MemEdit where
  addr : Word
  cell : Option Byte
deriving DecidableEq, Repr, Inhabited

/-- One outcome of a helper function's contract (R248): a return with R0's new cell, changes to data
memory and the new platform regions, or a failure. -/
inductive HelperOutcome where
  | returned (result : RegCell) (edits : List MemEdit) (regions : List Region)
  | faulted (info : Nat)
deriving DecidableEq, Repr, Inhabited

/-- One line of a helper function's `run` (`45_call_exit.md` R248): for these arguments and, where they are
given, this data memory and these regions, the set of outcomes is `first` and `others`, which is never
empty. -/
structure HelperCase where
  args : List Word
  mem : Option Memory
  regions : Option (List Region)
  first : HelperOutcome
  others : List HelperOutcome
deriving DecidableEq, Repr

/-- `run` of a helper function (R248): a relation from arguments, data memory and regions to a non-empty
set of outcomes. `cases` gives it as far as a platform is written out; everywhere else it is the free
relation named `id` (log 7). -/
structure HelperRun where
  id : Nat
  cases : List HelperCase
deriving DecidableEq, Repr

/-- `HelperSpec`, a helper function's entry (R248): its number, how many of R1 to R5 it reads, and what
it does. -/
structure HelperEntry where
  number : Int
  nargs : Fin 6
  run : HelperRun
deriving DecidableEq, Repr

/-- An answer of `cfg.LEGACY_PACKET` (`49_legacy_packet.md` R325): a next state, given by its architectural parts (`exitValue`
says the program has ended), or a fault. -/
inductive LegacyOutcome where
  | next (regs : RegFile) (pc : Nat) (frames : List Frame) (exitValue : Option Word)
      (edits : List MemEdit) (regions : List Region)
  | fault (info : FaultInfo)
deriving DecidableEq, Repr, Inhabited

/-- One line of `cfg.LEGACY_PACKET` (`49_legacy_packet.md` R325): its answer for these fields in this
state. -/
structure LegacyCase where
  fields : LegacyFields
  arch : ArchState
  answer : LegacyOutcome
deriving DecidableEq, Repr

/-- `cfg.LEGACY_PACKET`, a function from the instruction's fields and the whole machine state to a step
outcome (R325). `cases` gives it as far as a platform is written out; everywhere else it is the free
function named `id` (log 8). -/
structure LegacyFunction where
  id : Nat
  cases : List LegacyCase
deriving DecidableEq, Repr

/-- One answer of `cfg.code_addr`: the slot index of the instruction, its offset, the address (R318). -/
structure CodeAddrEntry where
  pc : Nat
  offset : Int
  addr : Word
deriving DecidableEq, Repr

/-- Which of R1 to R5 hold values at entry (`10_state.md` R29). -/
structure EntryArgs where
  r1 : RegCell
  r2 : RegCell
  r3 : RegCell
  r4 : RegCell
  r5 : RegCell
deriving DecidableEq, Repr

/-- The configuration record (`00_scope.md` R5). `calleeFrames` lists `cfg.frame_ptr(1)` onward, so
its length is `cfg.MAX_CALL_DEPTH` (R253). A platform function is a finite table, which answers
nothing where it has no entry (R318). -/
structure Config where
  endian : Endian
  stackSize : Word
  frameTop : Word
  calleeFrames : List Word
  entryArgs : EntryArgs
  calleeSaved : CalleeSaved
  alignPolicy : AlignPolicy
  shiftOversize : ShiftPolicy
  localCallField : LocalCallField
  maxInsns : Option Nat
  regions : List Region
  helperAgnostic : List HelperEntry
  helperSpecific : List HelperEntry
  hasMaps : Bool
  mapByFd : List (Int × Word)
  mapByIdx : List (Nat × Word)
  mva : List (Word × Word)
  hasVariables : Bool
  variableAddr : List (Int × Word)
  codeAddr : Option (List CodeAddrEntry)
  legacyPacket : Option LegacyFunction
deriving DecidableEq, Repr

/-- `cfg.MAX_CALL_DEPTH` (`10_state.md` R36). -/
def Config.maxCallDepth (c : Config) : Nat := c.calleeFrames.length

/-- `cfg.frame_ptr(k)`: R10 of a function running with `k` calls active below it (R253). Past
`maxCallDepth` no function runs; the value there is never used. -/
def Config.framePtr (c : Config) (k : Nat) : Word :=
  match k with
  | 0 => c.frameTop
  | k + 1 => c.calleeFrames.getD k c.frameTop

/-- The stack frame that ends at `fp`: the bytes `[fp - STACK_SIZE, fp)`, readable, writable and not
shared (`20_memory.md` R52, R67). -/
def Config.frameRegion (c : Config) (fp : Word) : Region :=
  { base := fp - c.stackSize, size := c.stackSize, readable := true, writable := true, shared := false }

/-- The byte range of a region does not wrap past 2^64 (R52). -/
def Region.fits (r : Region) : Bool := decide (r.base.toNat + r.size.toNat ≤ 2 ^ 64)

/-- The byte ranges of two regions have no byte in common (R52). -/
def Region.disjoint (a b : Region) : Bool :=
  decide (a.base.toNat + a.size.toNat ≤ b.base.toNat) || decide (b.base.toNat + b.size.toNat ≤ a.base.toNat)

/-- No two regions of a list have a byte in common (R52). -/
def Region.pairwiseDisjoint : List Region → Bool
  | [] => true
  | r :: rs => rs.all r.disjoint && Region.pairwiseDisjoint rs

/-- The frames a run may have, outermost first (R253). -/
def Config.allFrames (c : Config) : List Region :=
  (c.frameTop :: c.calleeFrames).map c.frameRegion

/-- The conditions the spec puts on a platform: regions and frames neither overlap nor wrap (R52,
R253), and under `strict` every frame pointer is a multiple of 8 (R253). No rule of a step needs
them; a claim about a real platform may assume them. -/
def Config.valid (c : Config) : Bool :=
  Region.pairwiseDisjoint (c.allFrames ++ c.regions)
    && (c.allFrames ++ c.regions).all Region.fits
    && (decide (c.alignPolicy = .any) || (c.frameTop :: c.calleeFrames).all fun p => p.toNat % 8 == 0)

/-- The platform of `State.reset`: the instance the spec's own examples and test vectors use (R253;
`95_test_vectors.md`, conventions), with the default of `00_scope.md` R5 where it has one, and zero
in R1 to R5. DESIGN CHOICE (log 2), unsafe: a claim about `State.reset` rests on these values. -/
def Config.default : Config where
  endian := .little
  stackSize := 512
  frameTop := 0x10000
  calleeFrames := [0xfe00, 0xfc00, 0xfa00, 0xf800, 0xf600, 0xf400, 0xf200, 0xf000]
  entryArgs := { r1 := .value 0, r2 := .value 0, r3 := .value 0, r4 := .value 0, r5 := .value 0 }
  calleeSaved := .check
  alignPolicy := .any
  shiftOversize := .fault
  localCallField := .offset
  maxInsns := none
  regions := []
  helperAgnostic := []
  helperSpecific := []
  hasMaps := false
  mapByFd := []
  mapByIdx := []
  mva := []
  hasVariables := false
  variableAddr := []
  codeAddr := none
  legacyPacket := none

/-- A FREE VALUE (log 7): outcome number `choice` of the helper function `id` where its `cases` do not say,
for its arguments, data memory and regions. Over all numbers these are a non-empty set, which is all
that the contract fixes (R248), and nothing in Lean knows which. -/
opaque Config.helperOutcome (id : Nat) (args : List Word) (mem : Memory) (regions : List Region)
    (choice : Nat) : HelperOutcome

/-- A FREE VALUE (log 8): what the function `id` behind `cfg.LEGACY_PACKET` answers where its `cases` do
not say. It sees the instruction's fields and the architectural state and nothing else (R325, R375). -/
opaque Config.legacyOutcome (id : Nat) (fields : LegacyFields) (arch : ArchState) : LegacyOutcome

end Sys2Proof
end

