-- ==== Sys2Proof/WellFormed.lean ====
section
/-! DEFINITION. Which terms of `Instr` stand for instructions of the spec: the written register is not
R10 (`30_encoding.md` R104, `10_state.md` R22), the map-value offset is not negative (R313, R317),
and the BPF-local call's `offset` is zero where the displacement is in `imm` (R249). -/

namespace Sys2Proof

/-- R10 is read-only: no instruction writes it (`10_state.md` R22). -/
def Reg.mayBeWritten (r : Reg) : Bool := decide (r ≠ .r10)

/-- Bit 31 of `next_imm` is 0: the offset into a map's value area is 0 to 0x7fffffff (R313, R317). -/
def nextImmInRange (nextImm : Half) : Bool := !nextImm.msb

/-- Under `cfg.LOCAL_CALL_FIELD = imm` the unused `offset` of a BPF-local call is zero (R249, R101). -/
def localCallOffsetOk (field : LocalCallField) (offset : BitVec 16) : Bool :=
  match field with
  | .offset => true
  | .imm => offset == 0

/-- The conditions of rule R101 that the type of a constructor does not already say. -/
def Instr.wellFormed (field : LocalCallField) : Instr → Bool
  | .add32K dst _ => dst.mayBeWritten
  | .add32X dst _ => dst.mayBeWritten
  | .sub32K dst _ => dst.mayBeWritten
  | .sub32X dst _ => dst.mayBeWritten
  | .mul32K dst _ => dst.mayBeWritten
  | .mul32X dst _ => dst.mayBeWritten
  | .div32K dst _ => dst.mayBeWritten
  | .div32X dst _ => dst.mayBeWritten
  | .or32K dst _ => dst.mayBeWritten
  | .or32X dst _ => dst.mayBeWritten
  | .and32K dst _ => dst.mayBeWritten
  | .and32X dst _ => dst.mayBeWritten
  | .lsh32K dst _ => dst.mayBeWritten
  | .lsh32X dst _ => dst.mayBeWritten
  | .rsh32K dst _ => dst.mayBeWritten
  | .rsh32X dst _ => dst.mayBeWritten
  | .neg32 dst => dst.mayBeWritten
  | .mod32K dst _ => dst.mayBeWritten
  | .mod32X dst _ => dst.mayBeWritten
  | .xor32K dst _ => dst.mayBeWritten
  | .xor32X dst _ => dst.mayBeWritten
  | .mov32K dst _ => dst.mayBeWritten
  | .mov32X dst _ => dst.mayBeWritten
  | .arsh32K dst _ => dst.mayBeWritten
  | .arsh32X dst _ => dst.mayBeWritten
  | .add64K dst _ => dst.mayBeWritten
  | .add64X dst _ => dst.mayBeWritten
  | .sub64K dst _ => dst.mayBeWritten
  | .sub64X dst _ => dst.mayBeWritten
  | .mul64K dst _ => dst.mayBeWritten
  | .mul64X dst _ => dst.mayBeWritten
  | .div64K dst _ => dst.mayBeWritten
  | .div64X dst _ => dst.mayBeWritten
  | .or64K dst _ => dst.mayBeWritten
  | .or64X dst _ => dst.mayBeWritten
  | .and64K dst _ => dst.mayBeWritten
  | .and64X dst _ => dst.mayBeWritten
  | .lsh64K dst _ => dst.mayBeWritten
  | .lsh64X dst _ => dst.mayBeWritten
  | .rsh64K dst _ => dst.mayBeWritten
  | .rsh64X dst _ => dst.mayBeWritten
  | .neg64 dst => dst.mayBeWritten
  | .mod64K dst _ => dst.mayBeWritten
  | .mod64X dst _ => dst.mayBeWritten
  | .xor64K dst _ => dst.mayBeWritten
  | .xor64X dst _ => dst.mayBeWritten
  | .mov64K dst _ => dst.mayBeWritten
  | .mov64X dst _ => dst.mayBeWritten
  | .arsh64K dst _ => dst.mayBeWritten
  | .arsh64X dst _ => dst.mayBeWritten
  | .le16 dst => dst.mayBeWritten
  | .le32 dst => dst.mayBeWritten
  | .le64 dst => dst.mayBeWritten
  | .be16 dst => dst.mayBeWritten
  | .be32 dst => dst.mayBeWritten
  | .be64 dst => dst.mayBeWritten
  | .ja _ => true
  | .jeqK _ _ _ => true
  | .jeqX _ _ _ => true
  | .jgtK _ _ _ => true
  | .jgtX _ _ _ => true
  | .jgeK _ _ _ => true
  | .jgeX _ _ _ => true
  | .jsetK _ _ _ => true
  | .jsetX _ _ _ => true
  | .jneK _ _ _ => true
  | .jneX _ _ _ => true
  | .jsgtK _ _ _ => true
  | .jsgtX _ _ _ => true
  | .jsgeK _ _ _ => true
  | .jsgeX _ _ _ => true
  | .jltK _ _ _ => true
  | .jltX _ _ _ => true
  | .jleK _ _ _ => true
  | .jleX _ _ _ => true
  | .jsltK _ _ _ => true
  | .jsltX _ _ _ => true
  | .jsleK _ _ _ => true
  | .jsleX _ _ _ => true
  | .jeq32K _ _ _ => true
  | .jeq32X _ _ _ => true
  | .jgt32K _ _ _ => true
  | .jgt32X _ _ _ => true
  | .jge32K _ _ _ => true
  | .jge32X _ _ _ => true
  | .jset32K _ _ _ => true
  | .jset32X _ _ _ => true
  | .jne32K _ _ _ => true
  | .jne32X _ _ _ => true
  | .jsgt32K _ _ _ => true
  | .jsgt32X _ _ _ => true
  | .jsge32K _ _ _ => true
  | .jsge32X _ _ _ => true
  | .jlt32K _ _ _ => true
  | .jlt32X _ _ _ => true
  | .jle32K _ _ _ => true
  | .jle32X _ _ _ => true
  | .jslt32K _ _ _ => true
  | .jslt32X _ _ _ => true
  | .jsle32K _ _ _ => true
  | .jsle32X _ _ _ => true
  | .callHelper _ => true
  | .callLocal offset _ => localCallOffsetOk field offset
  | .callHelperSpecific _ => true
  | .exit => true
  | .ldxw dst _ _ => dst.mayBeWritten
  | .ldxh dst _ _ => dst.mayBeWritten
  | .ldxb dst _ _ => dst.mayBeWritten
  | .ldxdw dst _ _ => dst.mayBeWritten
  | .stw _ _ _ => true
  | .sth _ _ _ => true
  | .stb _ _ _ => true
  | .stdw _ _ _ => true
  | .stxw _ _ _ => true
  | .stxh _ _ _ => true
  | .stxb _ _ _ => true
  | .stxdw _ _ _ => true
  | .atomicAdd32 _ _ _ => true
  | .atomicFetchAdd32 _ src _ => src.mayBeWritten
  | .atomicOr32 _ _ _ => true
  | .atomicFetchOr32 _ src _ => src.mayBeWritten
  | .atomicAnd32 _ _ _ => true
  | .atomicFetchAnd32 _ src _ => src.mayBeWritten
  | .atomicXor32 _ _ _ => true
  | .atomicFetchXor32 _ src _ => src.mayBeWritten
  | .atomicXchg32 _ src _ => src.mayBeWritten
  | .atomicCmpxchg32 _ _ _ => true
  | .atomicAdd64 _ _ _ => true
  | .atomicFetchAdd64 _ src _ => src.mayBeWritten
  | .atomicOr64 _ _ _ => true
  | .atomicFetchOr64 _ src _ => src.mayBeWritten
  | .atomicAnd64 _ _ _ => true
  | .atomicFetchAnd64 _ src _ => src.mayBeWritten
  | .atomicXor64 _ _ _ => true
  | .atomicFetchXor64 _ src _ => src.mayBeWritten
  | .atomicXchg64 _ src _ => src.mayBeWritten
  | .atomicCmpxchg64 _ _ _ => true
  | .lddw dst _ _ => dst.mayBeWritten
  | .ldMapFd dst _ => dst.mayBeWritten
  | .ldMapValueFd dst _ nextImm => dst.mayBeWritten && nextImmInRange nextImm
  | .ldVarAddr dst _ => dst.mayBeWritten
  | .ldCodeAddr dst _ => dst.mayBeWritten
  | .ldMapIdx dst _ => dst.mayBeWritten
  | .ldMapValueIdx dst _ nextImm => dst.mayBeWritten && nextImmInRange nextImm
  | .ldAbsW _ _ _ _ => true
  | .ldAbsH _ _ _ _ => true
  | .ldAbsB _ _ _ _ => true
  | .ldAbsDw _ _ _ _ => true
  | .ldIndW _ _ _ _ => true
  | .ldIndH _ _ _ _ => true
  | .ldIndB _ _ _ _ => true
  | .ldIndDw _ _ _ _ => true

end Sys2Proof
end

