-- ==== Sys2Proof/Decode.lean ====
section
/-! DEFINITION. Decoding and encoding (`30_encoding.md`): cutting a slot into fields in either byte
order (R81, R83), the opcode map (R84, R90 to R99, R102, R109) with each row's use of the fields
(R101), the decoder in the order of R100, and the encoder. -/

namespace Sys2Proof

/-- The fields of a slot (R82). -/
structure Fields where
  opcode : BitVec 8
  dst : BitVec 4
  src : BitVec 4
  offset : BitVec 16
  imm : Half
deriving DecidableEq, Repr

/-- Cuts a slot's bytes into fields (R81 little-endian BPF, R83 big-endian BPF). -/
def cut (e : Endian) (w : Slot) : Fields :=
  match e with
  | .little =>
    { opcode := w.b0, dst := w.b1.extractLsb' 0 4, src := w.b1.extractLsb' 4 4,
      offset := w.b3 ++ w.b2, imm := w.b7 ++ w.b6 ++ w.b5 ++ w.b4 }
  | .big =>
    { opcode := w.b0, dst := w.b1.extractLsb' 4 4, src := w.b1.extractLsb' 0 4,
      offset := w.b2 ++ w.b3, imm := w.b4 ++ w.b5 ++ w.b6 ++ w.b7 }

/-- Lays fields out as a slot's bytes: the inverse of `cut` (R81, R83). -/
def pack (e : Endian) (f : Fields) : Slot :=
  match e with
  | .little =>
    { b0 := f.opcode, b1 := f.src ++ f.dst,
      b2 := f.offset.extractLsb' 0 8, b3 := f.offset.extractLsb' 8 8,
      b4 := f.imm.extractLsb' 0 8, b5 := f.imm.extractLsb' 8 8,
      b6 := f.imm.extractLsb' 16 8, b7 := f.imm.extractLsb' 24 8 }
  | .big =>
    { b0 := f.opcode, b1 := f.dst ++ f.src,
      b2 := f.offset.extractLsb' 8 8, b3 := f.offset.extractLsb' 0 8,
      b4 := f.imm.extractLsb' 24 8, b5 := f.imm.extractLsb' 16 8,
      b6 := f.imm.extractLsb' 8 8, b7 := f.imm.extractLsb' 0 8 }

/-- The canonical word of a slot (R84). -/
def Fields.word (f : Fields) : BitVec 64 := f.imm ++ f.offset ++ f.src ++ f.dst ++ f.opcode

/-- The fields of a canonical word (R84). -/
def Fields.ofWord (w : BitVec 64) : Fields :=
  { opcode := w.extractLsb' 0 8, dst := w.extractLsb' 8 4, src := w.extractLsb' 12 4,
    offset := w.extractLsb' 16 16, imm := w.extractLsb' 32 32 }

/-- The number of a register (R20, R82). -/
def Reg.num : Reg → BitVec 4
  | .r0 => 0
  | .r1 => 1
  | .r2 => 2
  | .r3 => 3
  | .r4 => 4
  | .r5 => 5
  | .r6 => 6
  | .r7 => 7
  | .r8 => 8
  | .r9 => 9
  | .r10 => 10

/-- The register a 4-bit field names; 11 to 15 name none (R82, R104). -/
def Reg.ofNum (n : BitVec 4) : Option Reg :=
  match n.toNat with
  | 0 => some .r0
  | 1 => some .r1
  | 2 => some .r2
  | 3 => some .r3
  | 4 => some .r4
  | 5 => some .r5
  | 6 => some .r6
  | 7 => some .r7
  | 8 => some .r8
  | 9 => some .r9
  | 10 => some .r10
  | _ => none

/-- How an instruction uses a register field (the columns of R101): it must be zero; it names a
register that is read; it names a register that is written ("reg, not 10"); or it is a sub-opcode
already matched, or bits the instruction leaves free. -/
inductive RegUse where
  | zero | read | written | free
deriving DecidableEq, Repr

/-- How an instruction uses `offset` or `imm`: it must be zero, or any value (or a value already
matched by the row) is allowed (R101). -/
inductive FieldUse where
  | zero | free
deriving DecidableEq, Repr

/-- The second slot of a wide instruction: there is none; `next_imm` is any value; 0 to 0x7fffffff;
or zero (R101). -/
inductive SecondUse where
  | absent | free | nonNegative | zero
deriving DecidableEq, Repr

/-- A line of the table of R101. -/
structure Usage where
  dst : RegUse
  src : RegUse
  offset : FieldUse
  imm : FieldUse
  second : SecondUse
deriving DecidableEq, Repr

/-- Arithmetic, K form. -/
def Usage.arithK : Usage := ⟨.written, .zero, .zero, .free, .absent⟩
/-- Arithmetic, X form. -/
def Usage.arithX : Usage := ⟨.written, .read, .zero, .zero, .absent⟩
/-- NEG. -/
def Usage.neg : Usage := ⟨.written, .zero, .zero, .zero, .absent⟩
/-- Byte swap; `imm` is the width, matched by the row. -/
def Usage.byteSwap : Usage := ⟨.written, .zero, .zero, .free, .absent⟩
/-- JA. -/
def Usage.ja : Usage := ⟨.zero, .zero, .free, .zero, .absent⟩
/-- Conditional jump, K form. -/
def Usage.jumpK : Usage := ⟨.read, .zero, .free, .free, .absent⟩
/-- Conditional jump, X form. -/
def Usage.jumpX : Usage := ⟨.read, .read, .free, .zero, .absent⟩
/-- Helper calls; `src_reg` is the sub-opcode. -/
def Usage.callHelper : Usage := ⟨.zero, .free, .zero, .free, .absent⟩
/-- BPF-local call; which of `offset` and `imm` is constrained depends on `cfg.LOCAL_CALL_FIELD`. -/
def Usage.callLocal (field : LocalCallField) : Usage :=
  match field with
  | .offset => ⟨.zero, .free, .free, .free, .absent⟩
  | .imm => ⟨.zero, .free, .zero, .free, .absent⟩
/-- EXIT. -/
def Usage.exit : Usage := ⟨.zero, .zero, .zero, .zero, .absent⟩
/-- Load BPF_LDX. -/
def Usage.ldx : Usage := ⟨.written, .read, .free, .zero, .absent⟩
/-- Store immediate BPF_ST. -/
def Usage.st : Usage := ⟨.read, .zero, .free, .free, .absent⟩
/-- Store register BPF_STX. -/
def Usage.stx : Usage := ⟨.read, .read, .free, .zero, .absent⟩
/-- Atomic without BPF_FETCH, and compare and exchange (which writes R0); `imm` is matched by the row. -/
def Usage.atomic : Usage := ⟨.read, .read, .free, .free, .absent⟩
/-- Atomic that writes `src_reg`: fetching forms and exchange (R22). -/
def Usage.atomicFetch : Usage := ⟨.read, .written, .free, .free, .absent⟩
/-- 64-bit immediate, sub-opcode 0. -/
def Usage.wideAny : Usage := ⟨.written, .free, .zero, .free, .free⟩
/-- 64-bit immediate, sub-opcodes 2 and 6. -/
def Usage.wideOffset : Usage := ⟨.written, .free, .zero, .free, .nonNegative⟩
/-- 64-bit immediate, sub-opcodes 1, 3, 4 and 5. -/
def Usage.wideZero : Usage := ⟨.written, .free, .zero, .free, .zero⟩
/-- Legacy packet access: every field is "any". -/
def Usage.legacy : Usage := ⟨.free, .free, .free, .free, .absent⟩

/-- The operands of a decoded instruction. -/
structure Operands where
  dst : Reg
  src : Reg
  dstRaw : BitVec 4
  srcRaw : BitVec 4
  offset : BitVec 16
  imm : Half
  nextImm : Half
deriving DecidableEq, Repr

/-- The sub-opcode that selects among rows of one opcode byte (R100 step 3). -/
inductive Selector where
  | none
  | src (v : BitVec 4)
  | imm (v : Half)
deriving DecidableEq, Repr

/-- A row of the opcode map (R84, R109). -/
structure Row where
  opcode : BitVec 8
  selector : Selector
  usage : Usage
  build : Operands → Instr

/-- Class BPF_LD: 64-bit immediate (R310) and legacy packet access (R325). -/
def ldRows : List Row := [
  ⟨0x18, .src 0, .wideAny, fun o => .lddw o.dst o.imm o.nextImm⟩,
  ⟨0x18, .src 1, .wideZero, fun o => .ldMapFd o.dst o.imm⟩,
  ⟨0x18, .src 2, .wideOffset, fun o => .ldMapValueFd o.dst o.imm o.nextImm⟩,
  ⟨0x18, .src 3, .wideZero, fun o => .ldVarAddr o.dst o.imm⟩,
  ⟨0x18, .src 4, .wideZero, fun o => .ldCodeAddr o.dst o.imm⟩,
  ⟨0x18, .src 5, .wideZero, fun o => .ldMapIdx o.dst o.imm⟩,
  ⟨0x18, .src 6, .wideOffset, fun o => .ldMapValueIdx o.dst o.imm o.nextImm⟩,
  ⟨0x20, .none, .legacy, fun o => .ldAbsW o.dstRaw o.srcRaw o.offset o.imm⟩,
  ⟨0x28, .none, .legacy, fun o => .ldAbsH o.dstRaw o.srcRaw o.offset o.imm⟩,
  ⟨0x30, .none, .legacy, fun o => .ldAbsB o.dstRaw o.srcRaw o.offset o.imm⟩,
  ⟨0x38, .none, .legacy, fun o => .ldAbsDw o.dstRaw o.srcRaw o.offset o.imm⟩,
  ⟨0x40, .none, .legacy, fun o => .ldIndW o.dstRaw o.srcRaw o.offset o.imm⟩,
  ⟨0x48, .none, .legacy, fun o => .ldIndH o.dstRaw o.srcRaw o.offset o.imm⟩,
  ⟨0x50, .none, .legacy, fun o => .ldIndB o.dstRaw o.srcRaw o.offset o.imm⟩,
  ⟨0x58, .none, .legacy, fun o => .ldIndDw o.dstRaw o.srcRaw o.offset o.imm⟩]

/-- Class BPF_LDX: loads (R260). -/
def ldxRows : List Row := [
  ⟨0x61, .none, .ldx, fun o => .ldxw o.dst o.src o.offset⟩,
  ⟨0x69, .none, .ldx, fun o => .ldxh o.dst o.src o.offset⟩,
  ⟨0x71, .none, .ldx, fun o => .ldxb o.dst o.src o.offset⟩,
  ⟨0x79, .none, .ldx, fun o => .ldxdw o.dst o.src o.offset⟩]

/-- Class BPF_ST: stores of an immediate (R260). -/
def stRows : List Row := [
  ⟨0x62, .none, .st, fun o => .stw o.dst o.offset o.imm⟩,
  ⟨0x6a, .none, .st, fun o => .sth o.dst o.offset o.imm⟩,
  ⟨0x72, .none, .st, fun o => .stb o.dst o.offset o.imm⟩,
  ⟨0x7a, .none, .st, fun o => .stdw o.dst o.offset o.imm⟩]

/-- Class BPF_STX: stores of a register (R260) and atomic operations (R98, R280). -/
def stxRows : List Row := [
  ⟨0x63, .none, .stx, fun o => .stxw o.dst o.src o.offset⟩,
  ⟨0x6b, .none, .stx, fun o => .stxh o.dst o.src o.offset⟩,
  ⟨0x73, .none, .stx, fun o => .stxb o.dst o.src o.offset⟩,
  ⟨0x7b, .none, .stx, fun o => .stxdw o.dst o.src o.offset⟩,
  ⟨0xc3, .imm 0x0, .atomic, fun o => .atomicAdd32 o.dst o.src o.offset⟩,
  ⟨0xc3, .imm 0x1, .atomicFetch, fun o => .atomicFetchAdd32 o.dst o.src o.offset⟩,
  ⟨0xc3, .imm 0x40, .atomic, fun o => .atomicOr32 o.dst o.src o.offset⟩,
  ⟨0xc3, .imm 0x41, .atomicFetch, fun o => .atomicFetchOr32 o.dst o.src o.offset⟩,
  ⟨0xc3, .imm 0x50, .atomic, fun o => .atomicAnd32 o.dst o.src o.offset⟩,
  ⟨0xc3, .imm 0x51, .atomicFetch, fun o => .atomicFetchAnd32 o.dst o.src o.offset⟩,
  ⟨0xc3, .imm 0xa0, .atomic, fun o => .atomicXor32 o.dst o.src o.offset⟩,
  ⟨0xc3, .imm 0xa1, .atomicFetch, fun o => .atomicFetchXor32 o.dst o.src o.offset⟩,
  ⟨0xc3, .imm 0xe1, .atomicFetch, fun o => .atomicXchg32 o.dst o.src o.offset⟩,
  ⟨0xc3, .imm 0xf1, .atomic, fun o => .atomicCmpxchg32 o.dst o.src o.offset⟩,
  ⟨0xdb, .imm 0x0, .atomic, fun o => .atomicAdd64 o.dst o.src o.offset⟩,
  ⟨0xdb, .imm 0x1, .atomicFetch, fun o => .atomicFetchAdd64 o.dst o.src o.offset⟩,
  ⟨0xdb, .imm 0x40, .atomic, fun o => .atomicOr64 o.dst o.src o.offset⟩,
  ⟨0xdb, .imm 0x41, .atomicFetch, fun o => .atomicFetchOr64 o.dst o.src o.offset⟩,
  ⟨0xdb, .imm 0x50, .atomic, fun o => .atomicAnd64 o.dst o.src o.offset⟩,
  ⟨0xdb, .imm 0x51, .atomicFetch, fun o => .atomicFetchAnd64 o.dst o.src o.offset⟩,
  ⟨0xdb, .imm 0xa0, .atomic, fun o => .atomicXor64 o.dst o.src o.offset⟩,
  ⟨0xdb, .imm 0xa1, .atomicFetch, fun o => .atomicFetchXor64 o.dst o.src o.offset⟩,
  ⟨0xdb, .imm 0xe1, .atomicFetch, fun o => .atomicXchg64 o.dst o.src o.offset⟩,
  ⟨0xdb, .imm 0xf1, .atomic, fun o => .atomicCmpxchg64 o.dst o.src o.offset⟩]

/-- Class BPF_ALU: 32-bit arithmetic (R120) and byte swap (R96, R180). -/
def aluRows : List Row := [
  ⟨0x04, .none, .arithK, fun o => .add32K o.dst o.imm⟩,
  ⟨0x0c, .none, .arithX, fun o => .add32X o.dst o.src⟩,
  ⟨0x14, .none, .arithK, fun o => .sub32K o.dst o.imm⟩,
  ⟨0x1c, .none, .arithX, fun o => .sub32X o.dst o.src⟩,
  ⟨0x24, .none, .arithK, fun o => .mul32K o.dst o.imm⟩,
  ⟨0x2c, .none, .arithX, fun o => .mul32X o.dst o.src⟩,
  ⟨0x34, .none, .arithK, fun o => .div32K o.dst o.imm⟩,
  ⟨0x3c, .none, .arithX, fun o => .div32X o.dst o.src⟩,
  ⟨0x44, .none, .arithK, fun o => .or32K o.dst o.imm⟩,
  ⟨0x4c, .none, .arithX, fun o => .or32X o.dst o.src⟩,
  ⟨0x54, .none, .arithK, fun o => .and32K o.dst o.imm⟩,
  ⟨0x5c, .none, .arithX, fun o => .and32X o.dst o.src⟩,
  ⟨0x64, .none, .arithK, fun o => .lsh32K o.dst o.imm⟩,
  ⟨0x6c, .none, .arithX, fun o => .lsh32X o.dst o.src⟩,
  ⟨0x74, .none, .arithK, fun o => .rsh32K o.dst o.imm⟩,
  ⟨0x7c, .none, .arithX, fun o => .rsh32X o.dst o.src⟩,
  ⟨0x84, .none, .neg, fun o => .neg32 o.dst⟩,
  ⟨0x94, .none, .arithK, fun o => .mod32K o.dst o.imm⟩,
  ⟨0x9c, .none, .arithX, fun o => .mod32X o.dst o.src⟩,
  ⟨0xa4, .none, .arithK, fun o => .xor32K o.dst o.imm⟩,
  ⟨0xac, .none, .arithX, fun o => .xor32X o.dst o.src⟩,
  ⟨0xb4, .none, .arithK, fun o => .mov32K o.dst o.imm⟩,
  ⟨0xbc, .none, .arithX, fun o => .mov32X o.dst o.src⟩,
  ⟨0xc4, .none, .arithK, fun o => .arsh32K o.dst o.imm⟩,
  ⟨0xcc, .none, .arithX, fun o => .arsh32X o.dst o.src⟩,
  ⟨0xd4, .imm 16, .byteSwap, fun o => .le16 o.dst⟩,
  ⟨0xd4, .imm 32, .byteSwap, fun o => .le32 o.dst⟩,
  ⟨0xd4, .imm 64, .byteSwap, fun o => .le64 o.dst⟩,
  ⟨0xdc, .imm 16, .byteSwap, fun o => .be16 o.dst⟩,
  ⟨0xdc, .imm 32, .byteSwap, fun o => .be32 o.dst⟩,
  ⟨0xdc, .imm 64, .byteSwap, fun o => .be64 o.dst⟩]

/-- Class BPF_JMP: jumps, calls and exit (R97, R190, R246). -/
def jmpRows (field : LocalCallField) : List Row := [
  ⟨0x05, .none, .ja, fun o => .ja o.offset⟩,
  ⟨0x15, .none, .jumpK, fun o => .jeqK o.dst o.offset o.imm⟩,
  ⟨0x1d, .none, .jumpX, fun o => .jeqX o.dst o.src o.offset⟩,
  ⟨0x25, .none, .jumpK, fun o => .jgtK o.dst o.offset o.imm⟩,
  ⟨0x2d, .none, .jumpX, fun o => .jgtX o.dst o.src o.offset⟩,
  ⟨0x35, .none, .jumpK, fun o => .jgeK o.dst o.offset o.imm⟩,
  ⟨0x3d, .none, .jumpX, fun o => .jgeX o.dst o.src o.offset⟩,
  ⟨0x45, .none, .jumpK, fun o => .jsetK o.dst o.offset o.imm⟩,
  ⟨0x4d, .none, .jumpX, fun o => .jsetX o.dst o.src o.offset⟩,
  ⟨0x55, .none, .jumpK, fun o => .jneK o.dst o.offset o.imm⟩,
  ⟨0x5d, .none, .jumpX, fun o => .jneX o.dst o.src o.offset⟩,
  ⟨0x65, .none, .jumpK, fun o => .jsgtK o.dst o.offset o.imm⟩,
  ⟨0x6d, .none, .jumpX, fun o => .jsgtX o.dst o.src o.offset⟩,
  ⟨0x75, .none, .jumpK, fun o => .jsgeK o.dst o.offset o.imm⟩,
  ⟨0x7d, .none, .jumpX, fun o => .jsgeX o.dst o.src o.offset⟩,
  ⟨0x85, .src 0, .callHelper, fun o => .callHelper o.imm⟩,
  ⟨0x85, .src 1, .callLocal field, fun o => .callLocal o.offset o.imm⟩,
  ⟨0x85, .src 2, .callHelper, fun o => .callHelperSpecific o.imm⟩,
  ⟨0x95, .none, .exit, fun _ => .exit⟩,
  ⟨0xa5, .none, .jumpK, fun o => .jltK o.dst o.offset o.imm⟩,
  ⟨0xad, .none, .jumpX, fun o => .jltX o.dst o.src o.offset⟩,
  ⟨0xb5, .none, .jumpK, fun o => .jleK o.dst o.offset o.imm⟩,
  ⟨0xbd, .none, .jumpX, fun o => .jleX o.dst o.src o.offset⟩,
  ⟨0xc5, .none, .jumpK, fun o => .jsltK o.dst o.offset o.imm⟩,
  ⟨0xcd, .none, .jumpX, fun o => .jsltX o.dst o.src o.offset⟩,
  ⟨0xd5, .none, .jumpK, fun o => .jsleK o.dst o.offset o.imm⟩,
  ⟨0xdd, .none, .jumpX, fun o => .jsleX o.dst o.src o.offset⟩]

/-- Class BPF_JMP32: jumps with 32-bit operands (R220). -/
def jmp32Rows : List Row := [
  ⟨0x16, .none, .jumpK, fun o => .jeq32K o.dst o.offset o.imm⟩,
  ⟨0x1e, .none, .jumpX, fun o => .jeq32X o.dst o.src o.offset⟩,
  ⟨0x26, .none, .jumpK, fun o => .jgt32K o.dst o.offset o.imm⟩,
  ⟨0x2e, .none, .jumpX, fun o => .jgt32X o.dst o.src o.offset⟩,
  ⟨0x36, .none, .jumpK, fun o => .jge32K o.dst o.offset o.imm⟩,
  ⟨0x3e, .none, .jumpX, fun o => .jge32X o.dst o.src o.offset⟩,
  ⟨0x46, .none, .jumpK, fun o => .jset32K o.dst o.offset o.imm⟩,
  ⟨0x4e, .none, .jumpX, fun o => .jset32X o.dst o.src o.offset⟩,
  ⟨0x56, .none, .jumpK, fun o => .jne32K o.dst o.offset o.imm⟩,
  ⟨0x5e, .none, .jumpX, fun o => .jne32X o.dst o.src o.offset⟩,
  ⟨0x66, .none, .jumpK, fun o => .jsgt32K o.dst o.offset o.imm⟩,
  ⟨0x6e, .none, .jumpX, fun o => .jsgt32X o.dst o.src o.offset⟩,
  ⟨0x76, .none, .jumpK, fun o => .jsge32K o.dst o.offset o.imm⟩,
  ⟨0x7e, .none, .jumpX, fun o => .jsge32X o.dst o.src o.offset⟩,
  ⟨0xa6, .none, .jumpK, fun o => .jlt32K o.dst o.offset o.imm⟩,
  ⟨0xae, .none, .jumpX, fun o => .jlt32X o.dst o.src o.offset⟩,
  ⟨0xb6, .none, .jumpK, fun o => .jle32K o.dst o.offset o.imm⟩,
  ⟨0xbe, .none, .jumpX, fun o => .jle32X o.dst o.src o.offset⟩,
  ⟨0xc6, .none, .jumpK, fun o => .jslt32K o.dst o.offset o.imm⟩,
  ⟨0xce, .none, .jumpX, fun o => .jslt32X o.dst o.src o.offset⟩,
  ⟨0xd6, .none, .jumpK, fun o => .jsle32K o.dst o.offset o.imm⟩,
  ⟨0xde, .none, .jumpX, fun o => .jsle32X o.dst o.src o.offset⟩]

/-- Class BPF_ALU64: 64-bit arithmetic (R150). -/
def alu64Rows : List Row := [
  ⟨0x07, .none, .arithK, fun o => .add64K o.dst o.imm⟩,
  ⟨0x0f, .none, .arithX, fun o => .add64X o.dst o.src⟩,
  ⟨0x17, .none, .arithK, fun o => .sub64K o.dst o.imm⟩,
  ⟨0x1f, .none, .arithX, fun o => .sub64X o.dst o.src⟩,
  ⟨0x27, .none, .arithK, fun o => .mul64K o.dst o.imm⟩,
  ⟨0x2f, .none, .arithX, fun o => .mul64X o.dst o.src⟩,
  ⟨0x37, .none, .arithK, fun o => .div64K o.dst o.imm⟩,
  ⟨0x3f, .none, .arithX, fun o => .div64X o.dst o.src⟩,
  ⟨0x47, .none, .arithK, fun o => .or64K o.dst o.imm⟩,
  ⟨0x4f, .none, .arithX, fun o => .or64X o.dst o.src⟩,
  ⟨0x57, .none, .arithK, fun o => .and64K o.dst o.imm⟩,
  ⟨0x5f, .none, .arithX, fun o => .and64X o.dst o.src⟩,
  ⟨0x67, .none, .arithK, fun o => .lsh64K o.dst o.imm⟩,
  ⟨0x6f, .none, .arithX, fun o => .lsh64X o.dst o.src⟩,
  ⟨0x77, .none, .arithK, fun o => .rsh64K o.dst o.imm⟩,
  ⟨0x7f, .none, .arithX, fun o => .rsh64X o.dst o.src⟩,
  ⟨0x87, .none, .neg, fun o => .neg64 o.dst⟩,
  ⟨0x97, .none, .arithK, fun o => .mod64K o.dst o.imm⟩,
  ⟨0x9f, .none, .arithX, fun o => .mod64X o.dst o.src⟩,
  ⟨0xa7, .none, .arithK, fun o => .xor64K o.dst o.imm⟩,
  ⟨0xaf, .none, .arithX, fun o => .xor64X o.dst o.src⟩,
  ⟨0xb7, .none, .arithK, fun o => .mov64K o.dst o.imm⟩,
  ⟨0xbf, .none, .arithX, fun o => .mov64X o.dst o.src⟩,
  ⟨0xc7, .none, .arithK, fun o => .arsh64K o.dst o.imm⟩,
  ⟨0xcf, .none, .arithX, fun o => .arsh64X o.dst o.src⟩]

/-- The rows of an instruction class (R90). -/
def rowsOfClass (field : LocalCallField) (k : BitVec 3) : List Row :=
  match k.toNat with
  | 0 => ldRows
  | 1 => ldxRows
  | 2 => stRows
  | 3 => stxRows
  | 4 => aluRows
  | 5 => jmpRows field
  | 6 => jmp32Rows
  | _ => alu64Rows

/-- The rows with an opcode byte (R100 step 2). -/
def rowsOf (field : LocalCallField) (opcode : BitVec 8) : List Row :=
  (rowsOfClass field (opcode.extractLsb' 0 3)).filter fun r => r.opcode == opcode

/-- The row's sub-opcode is the slot's (R100 step 3). -/
def Selector.selects (sel : Selector) (f : Fields) : Bool :=
  match sel with
  | .none => true
  | .src v => f.src == v
  | .imm v => f.imm == v

/-- Steps 2 and 3 of R100: the row of the slot at `pc`. -/
def rowFor (field : LocalCallField) (f : Fields) : Except DecodeReason Row :=
  match rowsOf field f.opcode with
  | [] => .error .reservedOpcode
  | r :: rs =>
    match (r :: rs).find? fun q => q.selector.selects f with
    | none => .error .reservedSubOpcode
    | some q => .ok q

/-- Step 4 of R100: `next_imm` of a wide instruction (R87, R89); 0 for a basic one. -/
def secondImm (e : Endian) (use : SecondUse) (w1 : Option Slot) : Except DecodeReason Half :=
  match use with
  | .absent => .ok 0
  | _ =>
    match w1 with
    | none => .error .truncatedWide
    | some w =>
      if (cut e w).opcode = 0 ∧ (cut e w).dst = 0 ∧ (cut e w).src = 0 ∧ (cut e w).offset = 0
      then .ok (cut e w).imm
      else .error .badSecondSlot

/-- A register field that must be zero is. -/
def RegUse.zeroOk (u : RegUse) (v : BitVec 4) : Bool := !(decide (u = .zero)) || v == 0

/-- An `offset` or `imm` field that must be zero is. -/
def FieldUse.zeroOk {n : Nat} (u : FieldUse) (v : BitVec n) : Bool := !(decide (u = .zero)) || v == 0

/-- A `next_imm` that must be zero is. -/
def SecondUse.zeroOk (u : SecondUse) (v : Half) : Bool := !(decide (u = .zero)) || v == 0

/-- Every unused field is zero (R86, R101). -/
def Usage.unusedZero (u : Usage) (f : Fields) (next : Half) : Bool :=
  u.dst.zeroOk f.dst && u.src.zeroOk f.src && u.offset.zeroOk f.offset && u.imm.zeroOk f.imm
    && u.second.zeroOk next

/-- A `next_imm` of sub-opcodes 2 and 6 has bit 31 clear (R313, R317). -/
def Usage.nextInRange (u : Usage) (next : Half) : Bool :=
  !(decide (u.second = .nonNegative)) || nextImmInRange next

/-- A register field in use names a register (R104). -/
def RegUse.registerOk (u : RegUse) (v : BitVec 4) : Bool :=
  match u with
  | .read => (Reg.ofNum v).isSome
  | .written => (Reg.ofNum v).isSome
  | _ => true

/-- A register field that is written does not name R10 (R22, R104). -/
def RegUse.writeOk (u : RegUse) (v : BitVec 4) : Bool := !(decide (u = .written)) || v != 10

/-- Steps 5 and 6 of R100, in the order of `60_exceptions.md` R344. -/
def operandsOf (u : Usage) (f : Fields) (next : Half) : Except DecodeReason Operands :=
  if !(u.unusedZero f next) then .error .nonZeroUnusedField
  else if !(u.nextInRange next) then .error .negativeNextImm
  else if !(u.dst.registerOk f.dst && u.src.registerOk f.src) then .error .badRegister
  else if !(u.dst.writeOk f.dst && u.src.writeOk f.src) then .error .writeToR10
  else .ok
    { dst := (Reg.ofNum f.dst).getD .r0, src := (Reg.ofNum f.src).getD .r0,
      dstRaw := f.dst, srcRaw := f.src, offset := f.offset, imm := f.imm, nextImm := next }

/-- The decoder (R100, steps 1 to 6) on the slot at `pc` and the slot after it, if there is one. It is
total: any bytes give an instruction or a reason. Step 7 (`LegacyPacketUnsupported`) is the first
line of the legacy instructions' own rules (R326 to R333) and stands in their meanings; no fault
can come between (log 16). -/
def decode (e : Endian) (field : LocalCallField) (w0 : Slot) (w1 : Option Slot) :
    Except DecodeReason Instr :=
  match rowFor field (cut e w0) with
  | .error r => .error r
  | .ok row =>
    match secondImm e row.usage.second w1 with
    | .error r => .error r
    | .ok next =>
      match operandsOf row.usage (cut e w0) next with
      | .error r => .error r
      | .ok o => .ok (row.build o)

/-- The decoder on the slots that start an instruction. -/
def decodeSlots (e : Endian) (field : LocalCallField) : List Slot → Except DecodeReason Instr
  | [] => .error .truncatedWide
  | w0 :: rest => decode e field w0 rest.head?

/-- The fields of an instruction's first slot, and `next_imm` where it is wide: the rows of R101 and
R109 read from the instruction to the word. -/
def Instr.parts : Instr → Fields × Option Half
  | .add32K dst imm => (⟨0x04, dst.num, 0, 0, imm⟩, none)
  | .add32X dst src => (⟨0x0c, dst.num, src.num, 0, 0⟩, none)
  | .sub32K dst imm => (⟨0x14, dst.num, 0, 0, imm⟩, none)
  | .sub32X dst src => (⟨0x1c, dst.num, src.num, 0, 0⟩, none)
  | .mul32K dst imm => (⟨0x24, dst.num, 0, 0, imm⟩, none)
  | .mul32X dst src => (⟨0x2c, dst.num, src.num, 0, 0⟩, none)
  | .div32K dst imm => (⟨0x34, dst.num, 0, 0, imm⟩, none)
  | .div32X dst src => (⟨0x3c, dst.num, src.num, 0, 0⟩, none)
  | .or32K dst imm => (⟨0x44, dst.num, 0, 0, imm⟩, none)
  | .or32X dst src => (⟨0x4c, dst.num, src.num, 0, 0⟩, none)
  | .and32K dst imm => (⟨0x54, dst.num, 0, 0, imm⟩, none)
  | .and32X dst src => (⟨0x5c, dst.num, src.num, 0, 0⟩, none)
  | .lsh32K dst imm => (⟨0x64, dst.num, 0, 0, imm⟩, none)
  | .lsh32X dst src => (⟨0x6c, dst.num, src.num, 0, 0⟩, none)
  | .rsh32K dst imm => (⟨0x74, dst.num, 0, 0, imm⟩, none)
  | .rsh32X dst src => (⟨0x7c, dst.num, src.num, 0, 0⟩, none)
  | .neg32 dst => (⟨0x84, dst.num, 0, 0, 0⟩, none)
  | .mod32K dst imm => (⟨0x94, dst.num, 0, 0, imm⟩, none)
  | .mod32X dst src => (⟨0x9c, dst.num, src.num, 0, 0⟩, none)
  | .xor32K dst imm => (⟨0xa4, dst.num, 0, 0, imm⟩, none)
  | .xor32X dst src => (⟨0xac, dst.num, src.num, 0, 0⟩, none)
  | .mov32K dst imm => (⟨0xb4, dst.num, 0, 0, imm⟩, none)
  | .mov32X dst src => (⟨0xbc, dst.num, src.num, 0, 0⟩, none)
  | .arsh32K dst imm => (⟨0xc4, dst.num, 0, 0, imm⟩, none)
  | .arsh32X dst src => (⟨0xcc, dst.num, src.num, 0, 0⟩, none)
  | .add64K dst imm => (⟨0x07, dst.num, 0, 0, imm⟩, none)
  | .add64X dst src => (⟨0x0f, dst.num, src.num, 0, 0⟩, none)
  | .sub64K dst imm => (⟨0x17, dst.num, 0, 0, imm⟩, none)
  | .sub64X dst src => (⟨0x1f, dst.num, src.num, 0, 0⟩, none)
  | .mul64K dst imm => (⟨0x27, dst.num, 0, 0, imm⟩, none)
  | .mul64X dst src => (⟨0x2f, dst.num, src.num, 0, 0⟩, none)
  | .div64K dst imm => (⟨0x37, dst.num, 0, 0, imm⟩, none)
  | .div64X dst src => (⟨0x3f, dst.num, src.num, 0, 0⟩, none)
  | .or64K dst imm => (⟨0x47, dst.num, 0, 0, imm⟩, none)
  | .or64X dst src => (⟨0x4f, dst.num, src.num, 0, 0⟩, none)
  | .and64K dst imm => (⟨0x57, dst.num, 0, 0, imm⟩, none)
  | .and64X dst src => (⟨0x5f, dst.num, src.num, 0, 0⟩, none)
  | .lsh64K dst imm => (⟨0x67, dst.num, 0, 0, imm⟩, none)
  | .lsh64X dst src => (⟨0x6f, dst.num, src.num, 0, 0⟩, none)
  | .rsh64K dst imm => (⟨0x77, dst.num, 0, 0, imm⟩, none)
  | .rsh64X dst src => (⟨0x7f, dst.num, src.num, 0, 0⟩, none)
  | .neg64 dst => (⟨0x87, dst.num, 0, 0, 0⟩, none)
  | .mod64K dst imm => (⟨0x97, dst.num, 0, 0, imm⟩, none)
  | .mod64X dst src => (⟨0x9f, dst.num, src.num, 0, 0⟩, none)
  | .xor64K dst imm => (⟨0xa7, dst.num, 0, 0, imm⟩, none)
  | .xor64X dst src => (⟨0xaf, dst.num, src.num, 0, 0⟩, none)
  | .mov64K dst imm => (⟨0xb7, dst.num, 0, 0, imm⟩, none)
  | .mov64X dst src => (⟨0xbf, dst.num, src.num, 0, 0⟩, none)
  | .arsh64K dst imm => (⟨0xc7, dst.num, 0, 0, imm⟩, none)
  | .arsh64X dst src => (⟨0xcf, dst.num, src.num, 0, 0⟩, none)
  | .le16 dst => (⟨0xd4, dst.num, 0, 0, 16⟩, none)
  | .le32 dst => (⟨0xd4, dst.num, 0, 0, 32⟩, none)
  | .le64 dst => (⟨0xd4, dst.num, 0, 0, 64⟩, none)
  | .be16 dst => (⟨0xdc, dst.num, 0, 0, 16⟩, none)
  | .be32 dst => (⟨0xdc, dst.num, 0, 0, 32⟩, none)
  | .be64 dst => (⟨0xdc, dst.num, 0, 0, 64⟩, none)
  | .ja offset => (⟨0x05, 0, 0, offset, 0⟩, none)
  | .jeqK dst offset imm => (⟨0x15, dst.num, 0, offset, imm⟩, none)
  | .jeqX dst src offset => (⟨0x1d, dst.num, src.num, offset, 0⟩, none)
  | .jgtK dst offset imm => (⟨0x25, dst.num, 0, offset, imm⟩, none)
  | .jgtX dst src offset => (⟨0x2d, dst.num, src.num, offset, 0⟩, none)
  | .jgeK dst offset imm => (⟨0x35, dst.num, 0, offset, imm⟩, none)
  | .jgeX dst src offset => (⟨0x3d, dst.num, src.num, offset, 0⟩, none)
  | .jsetK dst offset imm => (⟨0x45, dst.num, 0, offset, imm⟩, none)
  | .jsetX dst src offset => (⟨0x4d, dst.num, src.num, offset, 0⟩, none)
  | .jneK dst offset imm => (⟨0x55, dst.num, 0, offset, imm⟩, none)
  | .jneX dst src offset => (⟨0x5d, dst.num, src.num, offset, 0⟩, none)
  | .jsgtK dst offset imm => (⟨0x65, dst.num, 0, offset, imm⟩, none)
  | .jsgtX dst src offset => (⟨0x6d, dst.num, src.num, offset, 0⟩, none)
  | .jsgeK dst offset imm => (⟨0x75, dst.num, 0, offset, imm⟩, none)
  | .jsgeX dst src offset => (⟨0x7d, dst.num, src.num, offset, 0⟩, none)
  | .jltK dst offset imm => (⟨0xa5, dst.num, 0, offset, imm⟩, none)
  | .jltX dst src offset => (⟨0xad, dst.num, src.num, offset, 0⟩, none)
  | .jleK dst offset imm => (⟨0xb5, dst.num, 0, offset, imm⟩, none)
  | .jleX dst src offset => (⟨0xbd, dst.num, src.num, offset, 0⟩, none)
  | .jsltK dst offset imm => (⟨0xc5, dst.num, 0, offset, imm⟩, none)
  | .jsltX dst src offset => (⟨0xcd, dst.num, src.num, offset, 0⟩, none)
  | .jsleK dst offset imm => (⟨0xd5, dst.num, 0, offset, imm⟩, none)
  | .jsleX dst src offset => (⟨0xdd, dst.num, src.num, offset, 0⟩, none)
  | .jeq32K dst offset imm => (⟨0x16, dst.num, 0, offset, imm⟩, none)
  | .jeq32X dst src offset => (⟨0x1e, dst.num, src.num, offset, 0⟩, none)
  | .jgt32K dst offset imm => (⟨0x26, dst.num, 0, offset, imm⟩, none)
  | .jgt32X dst src offset => (⟨0x2e, dst.num, src.num, offset, 0⟩, none)
  | .jge32K dst offset imm => (⟨0x36, dst.num, 0, offset, imm⟩, none)
  | .jge32X dst src offset => (⟨0x3e, dst.num, src.num, offset, 0⟩, none)
  | .jset32K dst offset imm => (⟨0x46, dst.num, 0, offset, imm⟩, none)
  | .jset32X dst src offset => (⟨0x4e, dst.num, src.num, offset, 0⟩, none)
  | .jne32K dst offset imm => (⟨0x56, dst.num, 0, offset, imm⟩, none)
  | .jne32X dst src offset => (⟨0x5e, dst.num, src.num, offset, 0⟩, none)
  | .jsgt32K dst offset imm => (⟨0x66, dst.num, 0, offset, imm⟩, none)
  | .jsgt32X dst src offset => (⟨0x6e, dst.num, src.num, offset, 0⟩, none)
  | .jsge32K dst offset imm => (⟨0x76, dst.num, 0, offset, imm⟩, none)
  | .jsge32X dst src offset => (⟨0x7e, dst.num, src.num, offset, 0⟩, none)
  | .jlt32K dst offset imm => (⟨0xa6, dst.num, 0, offset, imm⟩, none)
  | .jlt32X dst src offset => (⟨0xae, dst.num, src.num, offset, 0⟩, none)
  | .jle32K dst offset imm => (⟨0xb6, dst.num, 0, offset, imm⟩, none)
  | .jle32X dst src offset => (⟨0xbe, dst.num, src.num, offset, 0⟩, none)
  | .jslt32K dst offset imm => (⟨0xc6, dst.num, 0, offset, imm⟩, none)
  | .jslt32X dst src offset => (⟨0xce, dst.num, src.num, offset, 0⟩, none)
  | .jsle32K dst offset imm => (⟨0xd6, dst.num, 0, offset, imm⟩, none)
  | .jsle32X dst src offset => (⟨0xde, dst.num, src.num, offset, 0⟩, none)
  | .callHelper imm => (⟨0x85, 0, 0, 0, imm⟩, none)
  | .callLocal offset imm => (⟨0x85, 0, 1, offset, imm⟩, none)
  | .callHelperSpecific imm => (⟨0x85, 0, 2, 0, imm⟩, none)
  | .exit => (⟨0x95, 0, 0, 0, 0⟩, none)
  | .ldxw dst src offset => (⟨0x61, dst.num, src.num, offset, 0⟩, none)
  | .ldxh dst src offset => (⟨0x69, dst.num, src.num, offset, 0⟩, none)
  | .ldxb dst src offset => (⟨0x71, dst.num, src.num, offset, 0⟩, none)
  | .ldxdw dst src offset => (⟨0x79, dst.num, src.num, offset, 0⟩, none)
  | .stw dst offset imm => (⟨0x62, dst.num, 0, offset, imm⟩, none)
  | .sth dst offset imm => (⟨0x6a, dst.num, 0, offset, imm⟩, none)
  | .stb dst offset imm => (⟨0x72, dst.num, 0, offset, imm⟩, none)
  | .stdw dst offset imm => (⟨0x7a, dst.num, 0, offset, imm⟩, none)
  | .stxw dst src offset => (⟨0x63, dst.num, src.num, offset, 0⟩, none)
  | .stxh dst src offset => (⟨0x6b, dst.num, src.num, offset, 0⟩, none)
  | .stxb dst src offset => (⟨0x73, dst.num, src.num, offset, 0⟩, none)
  | .stxdw dst src offset => (⟨0x7b, dst.num, src.num, offset, 0⟩, none)
  | .atomicAdd32 dst src offset => (⟨0xc3, dst.num, src.num, offset, 0x0⟩, none)
  | .atomicFetchAdd32 dst src offset => (⟨0xc3, dst.num, src.num, offset, 0x1⟩, none)
  | .atomicOr32 dst src offset => (⟨0xc3, dst.num, src.num, offset, 0x40⟩, none)
  | .atomicFetchOr32 dst src offset => (⟨0xc3, dst.num, src.num, offset, 0x41⟩, none)
  | .atomicAnd32 dst src offset => (⟨0xc3, dst.num, src.num, offset, 0x50⟩, none)
  | .atomicFetchAnd32 dst src offset => (⟨0xc3, dst.num, src.num, offset, 0x51⟩, none)
  | .atomicXor32 dst src offset => (⟨0xc3, dst.num, src.num, offset, 0xa0⟩, none)
  | .atomicFetchXor32 dst src offset => (⟨0xc3, dst.num, src.num, offset, 0xa1⟩, none)
  | .atomicXchg32 dst src offset => (⟨0xc3, dst.num, src.num, offset, 0xe1⟩, none)
  | .atomicCmpxchg32 dst src offset => (⟨0xc3, dst.num, src.num, offset, 0xf1⟩, none)
  | .atomicAdd64 dst src offset => (⟨0xdb, dst.num, src.num, offset, 0x0⟩, none)
  | .atomicFetchAdd64 dst src offset => (⟨0xdb, dst.num, src.num, offset, 0x1⟩, none)
  | .atomicOr64 dst src offset => (⟨0xdb, dst.num, src.num, offset, 0x40⟩, none)
  | .atomicFetchOr64 dst src offset => (⟨0xdb, dst.num, src.num, offset, 0x41⟩, none)
  | .atomicAnd64 dst src offset => (⟨0xdb, dst.num, src.num, offset, 0x50⟩, none)
  | .atomicFetchAnd64 dst src offset => (⟨0xdb, dst.num, src.num, offset, 0x51⟩, none)
  | .atomicXor64 dst src offset => (⟨0xdb, dst.num, src.num, offset, 0xa0⟩, none)
  | .atomicFetchXor64 dst src offset => (⟨0xdb, dst.num, src.num, offset, 0xa1⟩, none)
  | .atomicXchg64 dst src offset => (⟨0xdb, dst.num, src.num, offset, 0xe1⟩, none)
  | .atomicCmpxchg64 dst src offset => (⟨0xdb, dst.num, src.num, offset, 0xf1⟩, none)
  | .lddw dst imm nextImm => (⟨0x18, dst.num, 0, 0, imm⟩, some nextImm)
  | .ldMapFd dst imm => (⟨0x18, dst.num, 1, 0, imm⟩, some 0)
  | .ldMapValueFd dst imm nextImm => (⟨0x18, dst.num, 2, 0, imm⟩, some nextImm)
  | .ldVarAddr dst imm => (⟨0x18, dst.num, 3, 0, imm⟩, some 0)
  | .ldCodeAddr dst imm => (⟨0x18, dst.num, 4, 0, imm⟩, some 0)
  | .ldMapIdx dst imm => (⟨0x18, dst.num, 5, 0, imm⟩, some 0)
  | .ldMapValueIdx dst imm nextImm => (⟨0x18, dst.num, 6, 0, imm⟩, some nextImm)
  | .ldAbsW dst src offset imm => (⟨0x20, dst, src, offset, imm⟩, none)
  | .ldAbsH dst src offset imm => (⟨0x28, dst, src, offset, imm⟩, none)
  | .ldAbsB dst src offset imm => (⟨0x30, dst, src, offset, imm⟩, none)
  | .ldAbsDw dst src offset imm => (⟨0x38, dst, src, offset, imm⟩, none)
  | .ldIndW dst src offset imm => (⟨0x40, dst, src, offset, imm⟩, none)
  | .ldIndH dst src offset imm => (⟨0x48, dst, src, offset, imm⟩, none)
  | .ldIndB dst src offset imm => (⟨0x50, dst, src, offset, imm⟩, none)
  | .ldIndDw dst src offset imm => (⟨0x58, dst, src, offset, imm⟩, none)

/-- The pseudo instruction in the second slot of a wide instruction (R87). -/
def secondFields (next : Half) : Fields := ⟨0, 0, 0, 0, next⟩

/-- The slots of an instruction in a byte order (R80, R87): one for a basic instruction, two for a
wide one. -/
def encode (e : Endian) (i : Instr) : List Slot :=
  pack e i.parts.1 :: (i.parts.2.toList.map fun n => pack e (secondFields n))

/-- How many slots an instruction fills (R80, R89). -/
def Instr.size (i : Instr) : Nat := 1 + i.parts.2.toList.length

/-- The first canonical word of a table word (R84): bits 63 down to 0. -/
def tableFirst (nbits w : Nat) : Fields := Fields.ofWord (BitVec.ofNat 64 (w % 2 ^ nbits))

/-- The second canonical word of a table word (R84, `W2`): bits 127 down to 64. -/
def tableSecond (nbits w : Nat) : Fields := Fields.ofWord (BitVec.ofNat 64 (w % 2 ^ nbits / 2 ^ 64))

/-- The slots of a table word, laid out in a byte order. -/
def tableSlots (e : Endian) (nbits w : Nat) : List Slot :=
  [pack e (tableFirst nbits w), pack e (tableSecond nbits w)]

/-- What the decoder reads from the canonical words `W` and `W2` of `spec/opcode_table.json`, laid
out in the byte order of `Config.default`. -/
def decodeTableWord (nbits w : Nat) : Option Instr :=
  match decodeSlots Config.default.endian Config.default.localCallField
      (tableSlots Config.default.endian nbits w) with
  | .error _ => none
  | .ok i => some i

end Sys2Proof
end

