-- ==== Sys2Proof/Machine/State.lean ====
section
/-! DEFINITION. The state of the machine (`10_state.md` R20 to R40) as plain data, its faults
(`60_exceptions.md` R340, R341), and the state after reset. -/

namespace Sys2Proof.Machine

open Sys2Proof

/-- A write by another agent to one byte (`20_memory.md` R62). -/
structure AgentWrite where
  addr : Word
  byte : Byte
deriving DecidableEq, Repr

/-- The state of the machine. `regs`, `pc`, `frames`, `status`, `mem` and `grantedRegions` are the
spec's (`10_state.md` R40; the live stack frames are the rest of its `regions` and are computed from
`regs.r10` and `frames`, log 12). `cfg` and `prog` are the parameters of the step relation (R38),
constant over a run (log 3). The last three fields are the model's own: `choices`, which outcome of its
contract each coming helper call takes (log 7), `agentWrites`, what other agents write before each
coming step (log 9), and `turns`, the number of steps begun. Where a list is empty a free value stands
for its next entry. -/
structure State where
  regs : RegFile
  pc : Nat
  frames : List Frame
  status : Status
  mem : Memory
  grantedRegions : List Region
  cfg : Config
  prog : List Slot
  choices : List Nat
  agentWrites : List (List AgentWrite)
  turns : Nat
deriving DecidableEq, Repr

/-- Why the model has no step. The faults the spec names are not here: a step that raises one answers a
next state whose status is `faulted` (R340; log 5). -/
inductive Fault where
  /-- Raised by `step` on a machine whose status is not `running`: the spec gives it no step
  (`10_state.md` R31, R37; `60_exceptions.md` R344 line 1). Safe: nothing goes on there. -/
  | noStep
deriving DecidableEq, Repr

/-- Why the model gives an instruction no meaning. -/
inductive Refusal where
  /-- Raised by an arm of `exec` whose instruction has no meaning yet. Safe: the model stops. -/
  | notModelled (mnemonic : String)
deriving DecidableEq, Repr

/-- The machine right after reset: program entry (`10_state.md` R39, `70_reset_and_hazards.md` R370) on the
platform `Config.default`, with no program loaded and nothing in memory, and with zero in R0 and R6
to R9, which the spec leaves without a value. DESIGN CHOICE (logs 1, 2, 4), unsafe: the state the
spec describes is `State.entry` (`Machine/Entry.lean`). -/
def State.reset : State :=
  { regs :=
      { r0 := .value 0, r1 := .value 0, r2 := .value 0, r3 := .value 0, r4 := .value 0,
        r5 := .value 0, r6 := .value 0, r7 := .value 0, r8 := .value 0, r9 := .value 0,
        r10 := Config.default.frameTop },
    pc := 0, frames := [], status := .running, mem := [],
    grantedRegions := Config.default.regions, cfg := Config.default, prog := [],
    choices := [], agentWrites := [], turns := 0 }

end Sys2Proof.Machine

namespace Sys2Proof

open Sys2Proof.Machine

/-- A FREE VALUE (log 9): what other agents write before the step that begins at `s`, where `agentWrites`
does not say. `turns` differs at every step of a run, so no two steps are forced to agree. -/
opaque Config.otherAgents (s : State) : List AgentWrite

/-- A FREE VALUE (log 7): which outcome of its contract the helper call made at `s` takes, where `choices`
does not say. -/
opaque Config.helperChoice (s : State) : Nat

end Sys2Proof
end

