-- ==== Sys2Proof/Machine/Ops.lean ====
section
/-! DEFINITION. The named operations over registers, data memory, faults, program counter and
environment that every meaning is written with. -/

namespace Sys2Proof.Machine

open Sys2Proof

/-- What a step answers. -/
abbrev StepOutcome := Host.Outcome State Fault Refusal

/-! ### Faults (`60_exceptions.md`) -/

/-- `raise <Name>(info)` (`00_scope.md` R12, `60_exceptions.md` R340): the step ends with everything as
it was and `status <- Faulted(<Name>, info)`. This is the whole of taking an exception on this
machine: nothing is saved, no mode changes, control goes nowhere (R345), and there is no return from
it (R346). -/
def raise (s : State) (f : FaultInfo) : StepOutcome := .next { s with status := .faulted f }

/-! ### Registers (`10_state.md`) -/

/-- The cell of a register (R27). -/
def RegFile.get (x : RegFile) (r : Reg) : RegCell :=
  match r with
  | .r0 => x.r0
  | .r1 => x.r1
  | .r2 => x.r2
  | .r3 => x.r3
  | .r4 => x.r4
  | .r5 => x.r5
  | .r6 => x.r6
  | .r7 => x.r7
  | .r8 => x.r8
  | .r9 => x.r9
  | .r10 => .value x.r10

/-- Writes a register. R10 is read-only to every instruction (R22): nothing is written there. The
decoder refuses the instructions that would reach this case (R104). -/
def RegFile.set (x : RegFile) (r : Reg) (c : RegCell) : RegFile :=
  match r with
  | .r0 => { x with r0 := c }
  | .r1 => { x with r1 := c }
  | .r2 => { x with r2 := c }
  | .r3 => { x with r3 := c }
  | .r4 => { x with r4 := c }
  | .r5 => { x with r5 := c }
  | .r6 => { x with r6 := c }
  | .r7 => { x with r7 := c }
  | .r8 => { x with r8 := c }
  | .r9 => { x with r9 := c }
  | .r10 => x

/-- `x[1..5] <- unwritten` (R28). -/
def RegFile.clobberArgs (x : RegFile) : RegFile :=
  { x with r1 := .unwritten, r2 := .unwritten, r3 := .unwritten, r4 := .unwritten, r5 := .unwritten }

/-- `x[6..9] <- unwritten` (`45_call_exit.md` R249, under `cfg.CALLEE_SAVED = machine`). -/
def RegFile.clobberSaved (x : RegFile) : RegFile :=
  { x with r6 := .unwritten, r7 := .unwritten, r8 := .unwritten, r9 := .unwritten }

/-- `x[r]`: hands on the value, or raises `UnwrittenRegister(r)` (R8, R27). -/
def readReg (s : State) (r : Reg) (k : Word → StepOutcome) : StepOutcome :=
  match s.regs.get r with
  | .value v => k v
  | .unwritten => raise s (.unwrittenRegister r)

/-- Reads several registers in order (`45_call_exit.md` R247: "reading an unwritten one"). -/
def readRegs (s : State) (rs : List Reg) (k : List Word → StepOutcome) : StepOutcome :=
  match rs with
  | [] => k []
  | r :: rest => readReg s r fun v => readRegs s rest fun vs => k (v :: vs)

/-! ### Program counter (`10_state.md` R30 to R32) -/

/-- `pc <- npc` of a basic instruction. -/
def State.advance (s : State) : State := { s with pc := s.pc + 1 }

/-- `x[r] <- v` and `pc <- npc` of a basic instruction. -/
def State.writeBack (s : State) (r : Reg) (v : Word) : State :=
  { s with regs := s.regs.set r (.value v), pc := s.pc + 1 }

/-- `x[r] <- v` and `pc <- npc` of a wide instruction. -/
def State.writeBackWide (s : State) (r : Reg) (v : Word) : State :=
  { s with regs := s.regs.set r (.value v), pc := s.pc + 2 }

/-- `npc + disp` in the integers, for a basic instruction (`43_jump64.md` R190). -/
def jumpTarget (s : State) (disp : Int) : Int := (s.pc : Int) + 1 + disp

/-- `pc <- npc + disp`; a target below 0 raises `PcOutOfRange` at once (R190). -/
def jump (s : State) (disp : Int) : StepOutcome :=
  if jumpTarget s disp < 0 then raise s (.pcOutOfRange (jumpTarget s disp))
  else .next { s with pc := (jumpTarget s disp).toNat }

/-! ### Cells of data memory (`20_memory.md` R51, R58) -/

/-- The cell at an address: a byte, or `none` for `unwritten`. This is the one place that says what an
address that is not listed reads as (log 6). -/
def Memory.read (m : Memory) (a : Nat) : Option Byte :=
  match m with
  | [] => none
  | c :: cs => if c.1 = a then some c.2 else Memory.read cs a

/-- Writes one byte, keeping the addresses strictly rising. -/
def Memory.write (m : Memory) (a : Nat) (b : Byte) : Memory :=
  match m with
  | [] => [(a, b)]
  | c :: cs =>
    if a < c.1 then (a, b) :: c :: cs
    else if a = c.1 then (a, b) :: cs
    else c :: Memory.write cs a b

/-- Makes the `n` bytes from address `a` `unwritten`. -/
def Memory.forget (m : Memory) (a n : Nat) : Memory :=
  m.filter fun c => !(decide (a ≤ c.1) && decide (c.1 < a + n))

/-- One change of a helper's or the legacy function's outcome (`45_call_exit.md` R248). -/
def Memory.edit (m : Memory) (e : MemEdit) : Memory :=
  match e.cell with
  | some b => Memory.write m e.addr.toNat b
  | none => Memory.forget m e.addr.toNat 1

/-- The changes of an outcome, in order. -/
def Memory.editAll (m : Memory) (es : List MemEdit) : Memory := es.foldl Memory.edit m

/-- The `n` bytes from address `a`, lowest address first; `none` when one of them is `unwritten`. -/
def Memory.readBytes (m : Memory) (a n : Nat) : Option (List Byte) :=
  match n with
  | 0 => some []
  | n + 1 =>
    match Memory.read m a, Memory.readBytes m (a + 1) n with
    | some b, some bs => some (b :: bs)
    | _, _ => none

/-- Writes bytes from address `a` upward. -/
def Memory.writeBytes (m : Memory) (a : Nat) (bs : List Byte) : Memory :=
  match bs with
  | [] => m
  | b :: rest => Memory.writeBytes (Memory.write m a b) (a + 1) rest

/-- The canonical form: every address below 2^64, the addresses strictly rising. -/
def Memory.wf (m : Memory) : Bool :=
  match m with
  | [] => true
  | c :: cs => decide (c.1 < 2 ^ 64) && cs.all (fun d => decide (c.1 < d.1)) && Memory.wf cs

/-! ### Byte order (R56) -/

/-- The number whose bytes, least significant first, are the list. -/
def littleValue (bs : List Byte) : Nat :=
  match bs with
  | [] => 0
  | b :: rest => b.toNat + 256 * littleValue rest

/-- The low `n` bytes of a value, least significant first. -/
def littleBytes (n : Nat) (v : Word) : List Byte :=
  match n with
  | 0 => []
  | n + 1 => v.setWidth 8 :: littleBytes n (v >>> 8)

/-- The value of bytes given lowest address first, zero-extended to 64 bits. -/
def bytesToWord (e : Endian) (bs : List Byte) : Word :=
  match e with
  | .little => BitVec.ofNat 64 (littleValue bs)
  | .big => BitVec.ofNat 64 (littleValue bs.reverse)

/-- The low `n` bytes of a value, lowest address first. -/
def wordToBytes (e : Endian) (n : Nat) (v : Word) : List Byte :=
  match e with
  | .little => littleBytes n v
  | .big => (littleBytes n v).reverse

/-! ### Regions and admission (R52, R55, R59, R67) -/

/-- The `n` bytes at `ea` lie in the region and do not wrap past 2^64 (R55). -/
def covers (r : Region) (ea : Word) (n : Nat) : Bool :=
  decide (r.base.toNat ≤ ea.toNat) && decide (ea.toNat + n ≤ r.base.toNat + r.size.toNat)
    && decide (ea.toNat + n ≤ 2 ^ 64)

/-- The region has the permission an access needs; an atomic needs both (R55). -/
def permits (r : Region) (kind : AccessKind) : Bool :=
  match kind with
  | .read => r.readable
  | .write => r.writable
  | .atomic => r.readable && r.writable

/-- The frame pointers of the running function and of its callers (R67, `10_state.md` R36). -/
def State.framePointers (s : State) : List Word := s.regs.r10 :: s.frames.map fun f => f.fp

/-- `regions`: the live stack frames and the platform's regions (`10_state.md` R40). -/
def State.regions (s : State) : List Region :=
  (s.framePointers.map fun fp => s.cfg.frameRegion fp) ++ s.grantedRegions

/-- The alignment rule R59: atomics always, plain accesses under `strict`. -/
def State.alignmentOk (s : State) (ea : Word) (n : Nat) (kind : AccessKind) : Bool :=
  match kind with
  | .atomic => decide (ea.toNat % n = 0)
  | _ =>
    match s.cfg.alignPolicy with
    | .strict => decide (ea.toNat % n = 0)
    | .any => true

/-- Admission (R55). -/
def State.admits (s : State) (ea : Word) (n : Nat) (kind : AccessKind) : Bool :=
  (s.regions.any fun r => covers r ea n && permits r kind) && s.alignmentOk ea n kind

/-! ### Accesses (R11, R55, R58, R63) -/

/-- `MemRead(ea, n)` for a load or the read of an atomic: hands on the value zero-extended, or raises
`MemoryFault`, then `UninitialisedRead`. -/
def readMem (s : State) (ea : Word) (n : Nat) (kind : AccessKind) (k : Word → StepOutcome) : StepOutcome :=
  if s.admits ea n kind then
    match Memory.readBytes s.mem ea.toNat n with
    | some bs => k (bytesToWord s.cfg.endian bs)
    | none => raise s (.uninitialisedRead ea n)
  else raise s (.memoryFault ea n kind)

/-- The state with the low `n` bytes of `v` stored at `ea`. -/
def State.store (s : State) (ea : Word) (n : Nat) (v : Word) : State :=
  { s with mem := Memory.writeBytes s.mem ea.toNat (wordToBytes s.cfg.endian n v) }

/-- `MemWrite(ea, n, v)`: hands on the new state, or raises `MemoryFault`. -/
def writeMem (s : State) (ea : Word) (n : Nat) (v : Word) (k : State → StepOutcome) : StepOutcome :=
  if s.admits ea n .write then k (s.store ea n v) else raise s (.memoryFault ea n .write)

/-- `AtomicRMW(ea, n, f)` (R63): reads, writes what `f` gives (or nothing), and hands on the new state
and the old value. One step, so no other agent comes between. -/
def atomicRmw (s : State) (ea : Word) (n : Nat) (f : Word → Option Word)
    (k : State → Word → StepOutcome) : StepOutcome :=
  readMem s ea n .atomic fun old =>
    match f old with
    | some v => k (s.store ea n v) old
    | none => k s old

/-! ### The environment (`20_memory.md` R62, `45_call_exit.md` R248, `49_legacy_packet.md` R325) -/

/-- The byte at an address may be changed by other agents: it lies in a shared region (R62). -/
def State.sharedByte (s : State) (a : Word) : Bool := s.regions.any fun r => r.shared && covers r a 1

/-- Data memory after writes of other agents, in order. A write reaches only a byte of a shared region
(R62). -/
def State.agentMemory (s : State) (ws : List AgentWrite) : Memory :=
  ws.foldl (fun m w => if s.sharedByte w.addr then Memory.write m w.addr.toNat w.byte else m) s.mem

/-- What other agents write before the next step: the first batch of `agentWrites`, and where none is
listed the free value, at every step without end (R62, R350; DESIGN CHOICE, log 9). -/
def nextAgentWrites (s : State) : List AgentWrite :=
  match s.agentWrites with
  | ws :: _ => ws
  | [] => Config.otherAgents s

/-- The other agents' turn, which comes before every step (R62, R70, R350; DESIGN CHOICE, log 9). On a
machine with no shared region it changes no byte. -/
def agentTurn (s : State) : State :=
  { s with
    mem := if s.regions.any (fun r => r.shared) then s.agentMemory (nextAgentWrites s) else s.mem,
    agentWrites := s.agentWrites.tail,
    turns := s.turns + 1 }

/-- A line of `run` speaks of these arguments, this data memory and these regions. -/
def caseSpeaksOf (c : HelperCase) (args : List Word) (mem : Memory) (regions : List Region) : Bool :=
  decide (c.args = args)
    && (match c.mem with | some m => decide (m = mem) | none => true)
    && (match c.regions with | some rs => decide (rs = regions) | none => true)

/-- Member number `choice` of a helper's set of outcomes at these arguments, data memory and regions
(R248). The set is what this gives over all numbers: the outcomes its line lists, or the free relation
of log 7 where no line speaks. It is never empty. -/
def helperOutcome (run : HelperRun) (args : List Word) (mem : Memory) (regions : List Region)
    (choice : Nat) : HelperOutcome :=
  match run.cases.find? fun c => caseSpeaksOf c args mem regions with
  | some c => (c.first :: c.others).getD (choice % (c.others.length + 1)) c.first
  | none => Config.helperOutcome run.id args mem regions choice

/-- Which member of its set the next helper call takes: the first of `choices`, or the free value
(log 7). -/
def nextChoice (s : State) : Nat :=
  match s.choices with
  | k :: _ => k
  | [] => Config.helperChoice s

/-- The outcome of a helper call made now: a member of the set its contract gives for the arguments, `mem`
and the whole `regions` of R40, the live frames among them (R248). -/
def nextHelperOutcome (s : State) (run : HelperRun) (args : List Word) : HelperOutcome :=
  helperOutcome run args s.mem s.regions (nextChoice s)

/-- The architectural state, the tuple of `10_state.md` R40. -/
def State.arch (s : State) : ArchState :=
  { regs := s.regs, pc := s.pc, frames := s.frames, status := s.status, mem := s.mem,
    regions := s.regions }

/-- `cfg.LEGACY_PACKET` applied to an instruction's fields and the machine's state (R325): its listed line,
or the free value of log 8. A function of these alone (R375). -/
def legacyAnswer (fn : LegacyFunction) (fields : LegacyFields) (arch : ArchState) : LegacyOutcome :=
  match fn.cases.find? fun c => decide (c.fields = fields) && decide (c.arch = arch) with
  | some c => c.answer
  | none => Config.legacyOutcome fn.id fields arch

end Sys2Proof.Machine
end

