-- ==== Sys2Proof/Machine/Operands.lean ====
section
/-! DEFINITION. The operand forms (`30_encoding.md` R93, R94): register and immediate operands of the
arithmetic and jump classes at their width (`40_alu32.md` R120, `41_alu64.md` R150, `43_jump64.md`
R214, `44_jump32.md` R220), shift counts (R146), effective addresses (`20_memory.md` R53) and the
values of platform functions (`48_lddw.md` R310, R318). -/

namespace Sys2Proof.Machine

open Sys2Proof

/-! ### Arithmetic forms -/

/-- 32-bit, K form: low half of `dst` and the raw `imm`; the result is zero-extended (R120). -/
def arith32K (op : Half → Half → Half) (dst : Reg) (imm : Half) (s : State) : StepOutcome :=
  readReg s dst fun a => .next (s.writeBack dst (zext64 (op (low32 a) imm)))

/-- 32-bit, X form: low halves of `dst` and `src`; the result is zero-extended (R120). -/
def arith32X (op : Half → Half → Half) (dst src : Reg) (s : State) : StepOutcome :=
  readReg s dst fun a => readReg s src fun b =>
    .next (s.writeBack dst (zext64 (op (low32 a) (low32 b))))

/-- 64-bit, K form: `dst` and the sign-extended `imm` (R150). -/
def arith64K (op : Word → Word → Word) (dst : Reg) (imm : Half) (s : State) : StepOutcome :=
  readReg s dst fun a => .next (s.writeBack dst (op a (sext64 imm)))

/-- 64-bit, X form: `dst` and `src` (R150). -/
def arith64X (op : Word → Word → Word) (dst src : Reg) (s : State) : StepOutcome :=
  readReg s dst fun a => readReg s src fun b => .next (s.writeBack dst (op a b))

/-- One operand, 32-bit: NEG32 (R137). -/
def unary32 (op : Half → Half) (dst : Reg) (s : State) : StepOutcome :=
  readReg s dst fun a => .next (s.writeBack dst (zext64 (op (low32 a))))

/-- One operand, 64-bit: NEG64 (R167). -/
def unary64 (op : Word → Word) (dst : Reg) (s : State) : StepOutcome :=
  readReg s dst fun a => .next (s.writeBack dst (op a))

/-- `(src != 0) ? (dst / src) : 0`, unsigned (`30_encoding.md` R95, `60_exceptions.md` R342). -/
def divOrZero {n : Nat} (a b : BitVec n) : BitVec n := if b = 0 then 0 else a / b

/-- `(src != 0) ? (dst % src) : dst`, unsigned (R95, R342). -/
def modOrKeep {n : Nat} (a b : BitVec n) : BitVec n := if b = 0 then a else a % b

/-! ### Shift counts (R146) -/

/-- `shift_count_N(b)`: the count when it is below the width; else `ShiftOversize` or the count modulo
the width, as `cfg.SHIFT_OVERSIZE` says. -/
def shiftCount {n : Nat} (s : State) (b : BitVec n) (k : Nat → StepOutcome) : StepOutcome :=
  if b.toNat < n then k b.toNat
  else
    match s.cfg.shiftOversize with
    | .fault => raise s (.shiftOversize b.toNat)
    | .mask => k (b &&& BitVec.ofNat n (n - 1)).toNat

/-- 32-bit shift, K form. -/
def shift32K (op : Half → Nat → Half) (dst : Reg) (imm : Half) (s : State) : StepOutcome :=
  readReg s dst fun a => shiftCount s imm fun n => .next (s.writeBack dst (zext64 (op (low32 a) n)))

/-- 32-bit shift, X form. -/
def shift32X (op : Half → Nat → Half) (dst src : Reg) (s : State) : StepOutcome :=
  readReg s dst fun a => readReg s src fun b => shiftCount s (low32 b) fun n =>
    .next (s.writeBack dst (zext64 (op (low32 a) n)))

/-- 64-bit shift, K form. -/
def shift64K (op : Word → Nat → Word) (dst : Reg) (imm : Half) (s : State) : StepOutcome :=
  readReg s dst fun a => shiftCount s (sext64 imm) fun n => .next (s.writeBack dst (op a n))

/-- 64-bit shift, X form. -/
def shift64X (op : Word → Nat → Word) (dst src : Reg) (s : State) : StepOutcome :=
  readReg s dst fun a => readReg s src fun b => shiftCount s b fun n =>
    .next (s.writeBack dst (op a n))

/-! ### Byte reversal (`00_scope.md` R9, `42_byteswap.md` R180) -/

/-- `bswap_16`. -/
def swap16 (v : BitVec 16) : BitVec 16 := v.extractLsb' 0 8 ++ v.extractLsb' 8 8

/-- `bswap_32`. -/
def swap32 (v : BitVec 32) : BitVec 32 :=
  v.extractLsb' 0 8 ++ v.extractLsb' 8 8 ++ v.extractLsb' 16 8 ++ v.extractLsb' 24 8

/-- `bswap_64`. -/
def swap64 (v : BitVec 64) : BitVec 64 :=
  v.extractLsb' 0 8 ++ v.extractLsb' 8 8 ++ v.extractLsb' 16 8 ++ v.extractLsb' 24 8
    ++ v.extractLsb' 32 8 ++ v.extractLsb' 40 8 ++ v.extractLsb' 48 8 ++ v.extractLsb' 56 8

/-- `htoleNN` with `swap` the reversal of NN/8 bytes (R180). -/
def toLittle {n : Nat} (e : Endian) (swap : BitVec n → BitVec n) (v : BitVec n) : BitVec n :=
  match e with
  | .little => v
  | .big => swap v

/-- `htobeNN` with `swap` the reversal of NN/8 bytes (R180). -/
def toBig {n : Nat} (e : Endian) (swap : BitVec n → BitVec n) (v : BitVec n) : BitVec n :=
  match e with
  | .little => swap v
  | .big => v

/-- A byte swap instruction: only bits NN-1:0 of `dst` enter, and the result is zero-extended (R180). -/
def byteSwap {n : Nat} (convert : BitVec n → BitVec n) (dst : Reg) (s : State) : StepOutcome :=
  readReg s dst fun a => .next (s.writeBack dst ((convert (a.setWidth n)).setWidth 64))

/-! ### Conditional jumps -/

/-- A taken jump goes to `npc + sext(offset)`, another to `npc` (R190). -/
def branch (s : State) (taken : Bool) (offset : BitVec 16) : StepOutcome :=
  if taken then jump s offset.toInt else .next s.advance

/-- 64-bit operands, K form: `imm` is sign-extended, for unsigned comparisons too (R214). -/
def jump64K (cond : Word → Word → Bool) (dst : Reg) (offset : BitVec 16) (imm : Half) (s : State) :
    StepOutcome :=
  readReg s dst fun a => branch s (cond a (sext64 imm)) offset

/-- 64-bit operands, X form (R214). -/
def jump64X (cond : Word → Word → Bool) (dst src : Reg) (offset : BitVec 16) (s : State) : StepOutcome :=
  readReg s dst fun a => readReg s src fun b => branch s (cond a b) offset

/-- 32-bit operands, K form: the raw `imm` (R220). -/
def jump32K (cond : Half → Half → Bool) (dst : Reg) (offset : BitVec 16) (imm : Half) (s : State) :
    StepOutcome :=
  readReg s dst fun a => branch s (cond (low32 a) imm) offset

/-- 32-bit operands, X form: the low halves (R220). -/
def jump32X (cond : Half → Half → Bool) (dst src : Reg) (offset : BitVec 16) (s : State) : StepOutcome :=
  readReg s dst fun a => readReg s src fun b => branch s (cond (low32 a) (low32 b)) offset

/-! ### Addresses, loads and stores -/

/-- `ea = base + sext_64(offset)` modulo 2^64 (R53). -/
def effectiveAddress (base : Word) (offset : BitVec 16) : Word := base + offset.signExtend 64

/-- BPF_LDX: `n` bytes at `x[src] + offset`, zero-extended into `dst` (`46_load_store.md` R260). -/
def load (n : Nat) (dst src : Reg) (offset : BitVec 16) (s : State) : StepOutcome :=
  readReg s src fun base => readMem s (effectiveAddress base offset) n .read fun v =>
    .next (s.writeBack dst v)

/-- BPF_ST: the low `n` bytes of the sign-extended `imm` (R260; R268 for 8 bytes). -/
def storeImm (n : Nat) (dst : Reg) (offset : BitVec 16) (imm : Half) (s : State) : StepOutcome :=
  readReg s dst fun base => writeMem s (effectiveAddress base offset) n (sext64 imm) fun t =>
    .next t.advance

/-- BPF_STX: the low `n` bytes of `src` (R260). -/
def storeReg (n : Nat) (dst src : Reg) (offset : BitVec 16) (s : State) : StepOutcome :=
  readReg s dst fun base => readReg s src fun v =>
    writeMem s (effectiveAddress base offset) n v fun t => .next t.advance

/-! ### Atomic operations (`47_atomic.md` R280) -/

/-- A 32-bit operator on the low halves, as an operator on zero-extended values (R280). -/
def onLow (op : Half → Half → Half) (old v : Word) : Word := zext64 (op (low32 old) (low32 v))

/-- Without BPF_FETCH: memory becomes `op old src`; no register is written. -/
def atomicModify (n : Nat) (op : Word → Word → Word) (dst src : Reg) (offset : BitVec 16) (s : State) :
    StepOutcome :=
  readReg s dst fun base => readReg s src fun v =>
    atomicRmw s (effectiveAddress base offset) n (fun old => some (op old v)) fun t _ =>
      .next t.advance

/-- With BPF_FETCH: the same, and the old value, zero-extended, goes to `src`. -/
def atomicFetch (n : Nat) (op : Word → Word → Word) (dst src : Reg) (offset : BitVec 16) (s : State) :
    StepOutcome :=
  readReg s dst fun base => readReg s src fun v =>
    atomicRmw s (effectiveAddress base offset) n (fun old => some (op old v)) fun t old =>
      .next (t.writeBack src old)

/-- Compare and exchange (R290, R300): memory becomes `src` when the old value equals the part of R0 the
width takes; R0 receives the old value either way. -/
def atomicCompareExchange (n : Nat) (part : Word → Word) (dst src : Reg) (offset : BitVec 16) (s : State) :
    StepOutcome :=
  readReg s dst fun base => readReg s src fun v => readReg s .r0 fun expected =>
    atomicRmw s (effectiveAddress base offset) n
      (fun old => if old = part expected then some v else none) fun t old =>
        .next (t.writeBack .r0 old)

/-! ### Platform functions (R310, R318) -/

/-- The value a platform function gives: `UnsupportedFeature` where the platform lacks the feature, then
`BadPlatformReference` where the function has no answer. -/
def platformValue (s : State) (supported : Bool) (sub : Nat) (imm : Half) (answer : Option Word)
    (k : Word → StepOutcome) : StepOutcome :=
  if supported then
    match answer with
    | some v => k v
    | none => raise s (.badPlatformReference sub imm.toInt)
  else raise s (.unsupportedFeature sub)

/-- `cfg.map_by_fd(sext(imm))`. -/
def mapByFdAt (c : Config) (imm : Half) : Option Word := c.mapByFd.lookup imm.toInt

/-- `cfg.map_by_idx(imm[31:0])`. -/
def mapByIdxAt (c : Config) (imm : Half) : Option Word := c.mapByIdx.lookup imm.toNat

/-- `cfg.variable_addr(sext(imm))`. -/
def variableAddrAt (c : Config) (imm : Half) : Option Word := c.variableAddr.lookup imm.toInt

/-- `cfg.mva(map) + zext_64(next_imm)` modulo 2^64, of a map that may have no answer (R313, R317). -/
def mapValueAt (c : Config) (map : Option Word) (nextImm : Half) : Option Word :=
  match map with
  | none => none
  | some m =>
    match c.mva.lookup m with
    | none => none
    | some v => some (v + zext64 nextImm)

/-- `cfg.code_addr(pc, sext(imm))`; no answer where the platform has no such function. -/
def codeAddrAt (c : Config) (pc : Nat) (imm : Half) : Option Word :=
  match c.codeAddr with
  | none => none
  | some t =>
    match t.find? fun e => decide (e.pc = pc) && decide (e.offset = imm.toInt) with
    | none => none
    | some e => some e.addr

end Sys2Proof.Machine
end

