-- ==== Sys2Proof/Machine/Alu32.lean ====
section
/-! DEFINITION. The 32-bit arithmetic instructions, class BPF_ALU (`40_alu32.md` R120 to R147). -/

namespace Sys2Proof.Machine

open Sys2Proof

/-- `ADD32_K` (R121): 32-bit add, immediate operand. -/
def execAdd32K (dst : Reg) (imm : Half) (s : State) : StepOutcome :=
  arith32K (fun a b => a + b) dst imm s

/-- `ADD32_X` (R122): 32-bit add, register operand. -/
def execAdd32X (dst src : Reg) (s : State) : StepOutcome :=
  arith32X (fun a b => a + b) dst src s

/-- `SUB32_K` (R123): 32-bit subtract, immediate operand. -/
def execSub32K (dst : Reg) (imm : Half) (s : State) : StepOutcome :=
  arith32K (fun a b => a - b) dst imm s

/-- `SUB32_X` (R124): 32-bit subtract, register operand. -/
def execSub32X (dst src : Reg) (s : State) : StepOutcome :=
  arith32X (fun a b => a - b) dst src s

/-- `MUL32_K` (R125): 32-bit multiply, immediate operand. -/
def execMul32K (dst : Reg) (imm : Half) (s : State) : StepOutcome :=
  arith32K (fun a b => a * b) dst imm s

/-- `MUL32_X` (R126): 32-bit multiply, register operand. -/
def execMul32X (dst src : Reg) (s : State) : StepOutcome :=
  arith32X (fun a b => a * b) dst src s

/-- `DIV32_K` (R127): 32-bit unsigned divide, immediate operand. -/
def execDiv32K (dst : Reg) (imm : Half) (s : State) : StepOutcome :=
  arith32K divOrZero dst imm s

/-- `DIV32_X` (R128): 32-bit unsigned divide, register operand. -/
def execDiv32X (dst src : Reg) (s : State) : StepOutcome :=
  arith32X divOrZero dst src s

/-- `OR32_K` (R129): 32-bit bitwise or, immediate operand. -/
def execOr32K (dst : Reg) (imm : Half) (s : State) : StepOutcome :=
  arith32K (fun a b => a ||| b) dst imm s

/-- `OR32_X` (R130): 32-bit bitwise or, register operand. -/
def execOr32X (dst src : Reg) (s : State) : StepOutcome :=
  arith32X (fun a b => a ||| b) dst src s

/-- `AND32_K` (R131): 32-bit bitwise and, immediate operand. -/
def execAnd32K (dst : Reg) (imm : Half) (s : State) : StepOutcome :=
  arith32K (fun a b => a &&& b) dst imm s

/-- `AND32_X` (R132): 32-bit bitwise and, register operand. -/
def execAnd32X (dst src : Reg) (s : State) : StepOutcome :=
  arith32X (fun a b => a &&& b) dst src s

/-- `LSH32_K` (R133): 32-bit shift left, immediate operand. -/
def execLsh32K (dst : Reg) (imm : Half) (s : State) : StepOutcome :=
  shift32K (fun a n => a <<< n) dst imm s

/-- `LSH32_X` (R134): 32-bit shift left, register operand. -/
def execLsh32X (dst src : Reg) (s : State) : StepOutcome :=
  shift32X (fun a n => a <<< n) dst src s

/-- `RSH32_K` (R135): 32-bit logical shift right, immediate operand. -/
def execRsh32K (dst : Reg) (imm : Half) (s : State) : StepOutcome :=
  shift32K (fun a n => a >>> n) dst imm s

/-- `RSH32_X` (R136): 32-bit logical shift right, register operand. -/
def execRsh32X (dst src : Reg) (s : State) : StepOutcome :=
  shift32X (fun a n => a >>> n) dst src s

/-- `NEG32` (R137): 32-bit negate. -/
def execNeg32 (dst : Reg) (s : State) : StepOutcome :=
  unary32 (fun a => -a) dst s

/-- `MOD32_K` (R138): 32-bit unsigned remainder, immediate operand. -/
def execMod32K (dst : Reg) (imm : Half) (s : State) : StepOutcome :=
  arith32K modOrKeep dst imm s

/-- `MOD32_X` (R139): 32-bit unsigned remainder, register operand. -/
def execMod32X (dst src : Reg) (s : State) : StepOutcome :=
  arith32X modOrKeep dst src s

/-- `XOR32_K` (R140): 32-bit bitwise exclusive or, immediate operand. -/
def execXor32K (dst : Reg) (imm : Half) (s : State) : StepOutcome :=
  arith32K (fun a b => a ^^^ b) dst imm s

/-- `XOR32_X` (R141): 32-bit bitwise exclusive or, register operand. -/
def execXor32X (dst src : Reg) (s : State) : StepOutcome :=
  arith32X (fun a b => a ^^^ b) dst src s

/-- `MOV32_K` (R142): 32-bit move, immediate operand. -/
def execMov32K (dst : Reg) (imm : Half) (s : State) : StepOutcome :=
  .next (s.writeBack dst (zext64 imm))

/-- `MOV32_X` (R143): 32-bit move, register operand. -/
def execMov32X (dst src : Reg) (s : State) : StepOutcome :=
  readReg s src fun b => .next (s.writeBack dst (zext64 (low32 b)))

/-- `ARSH32_K` (R144): 32-bit arithmetic (sign extending) shift right, immediate operand. -/
def execArsh32K (dst : Reg) (imm : Half) (s : State) : StepOutcome :=
  shift32K (fun a n => a.sshiftRight n) dst imm s

/-- `ARSH32_X` (R145): 32-bit arithmetic (sign extending) shift right, register operand. -/
def execArsh32X (dst src : Reg) (s : State) : StepOutcome :=
  shift32X (fun a n => a.sshiftRight n) dst src s

end Sys2Proof.Machine
end

