-- ==== Sys2Proof/Machine/Alu64.lean ====
section
/-! DEFINITION. The 64-bit arithmetic instructions, class BPF_ALU64 (`41_alu64.md` R150 to R175). -/

namespace Sys2Proof.Machine

open Sys2Proof

/-- `ADD64_K` (R151): 64-bit add, immediate operand. -/
def execAdd64K (dst : Reg) (imm : Half) (s : State) : StepOutcome :=
  arith64K (fun a b => a + b) dst imm s

/-- `ADD64_X` (R152): 64-bit add, register operand. -/
def execAdd64X (dst src : Reg) (s : State) : StepOutcome :=
  arith64X (fun a b => a + b) dst src s

/-- `SUB64_K` (R153): 64-bit subtract, immediate operand. -/
def execSub64K (dst : Reg) (imm : Half) (s : State) : StepOutcome :=
  arith64K (fun a b => a - b) dst imm s

/-- `SUB64_X` (R154): 64-bit subtract, register operand. -/
def execSub64X (dst src : Reg) (s : State) : StepOutcome :=
  arith64X (fun a b => a - b) dst src s

/-- `MUL64_K` (R155): 64-bit multiply, immediate operand. -/
def execMul64K (dst : Reg) (imm : Half) (s : State) : StepOutcome :=
  arith64K (fun a b => a * b) dst imm s

/-- `MUL64_X` (R156): 64-bit multiply, register operand. -/
def execMul64X (dst src : Reg) (s : State) : StepOutcome :=
  arith64X (fun a b => a * b) dst src s

/-- `DIV64_K` (R157): 64-bit unsigned divide, immediate operand. -/
def execDiv64K (dst : Reg) (imm : Half) (s : State) : StepOutcome :=
  arith64K divOrZero dst imm s

/-- `DIV64_X` (R158): 64-bit unsigned divide, register operand. -/
def execDiv64X (dst src : Reg) (s : State) : StepOutcome :=
  arith64X divOrZero dst src s

/-- `OR64_K` (R159): 64-bit bitwise or, immediate operand. -/
def execOr64K (dst : Reg) (imm : Half) (s : State) : StepOutcome :=
  arith64K (fun a b => a ||| b) dst imm s

/-- `OR64_X` (R160): 64-bit bitwise or, register operand. -/
def execOr64X (dst src : Reg) (s : State) : StepOutcome :=
  arith64X (fun a b => a ||| b) dst src s

/-- `AND64_K` (R161): 64-bit bitwise and, immediate operand. -/
def execAnd64K (dst : Reg) (imm : Half) (s : State) : StepOutcome :=
  arith64K (fun a b => a &&& b) dst imm s

/-- `AND64_X` (R162): 64-bit bitwise and, register operand. -/
def execAnd64X (dst src : Reg) (s : State) : StepOutcome :=
  arith64X (fun a b => a &&& b) dst src s

/-- `LSH64_K` (R163): 64-bit shift left, immediate operand. -/
def execLsh64K (dst : Reg) (imm : Half) (s : State) : StepOutcome :=
  shift64K (fun a n => a <<< n) dst imm s

/-- `LSH64_X` (R164): 64-bit shift left, register operand. -/
def execLsh64X (dst src : Reg) (s : State) : StepOutcome :=
  shift64X (fun a n => a <<< n) dst src s

/-- `RSH64_K` (R165): 64-bit logical shift right, immediate operand. -/
def execRsh64K (dst : Reg) (imm : Half) (s : State) : StepOutcome :=
  shift64K (fun a n => a >>> n) dst imm s

/-- `RSH64_X` (R166): 64-bit logical shift right, register operand. -/
def execRsh64X (dst src : Reg) (s : State) : StepOutcome :=
  shift64X (fun a n => a >>> n) dst src s

/-- `NEG64` (R167): 64-bit negate. -/
def execNeg64 (dst : Reg) (s : State) : StepOutcome :=
  unary64 (fun a => -a) dst s

/-- `MOD64_K` (R168): 64-bit unsigned remainder, immediate operand. -/
def execMod64K (dst : Reg) (imm : Half) (s : State) : StepOutcome :=
  arith64K modOrKeep dst imm s

/-- `MOD64_X` (R169): 64-bit unsigned remainder, register operand. -/
def execMod64X (dst src : Reg) (s : State) : StepOutcome :=
  arith64X modOrKeep dst src s

/-- `XOR64_K` (R170): 64-bit bitwise exclusive or, immediate operand. -/
def execXor64K (dst : Reg) (imm : Half) (s : State) : StepOutcome :=
  arith64K (fun a b => a ^^^ b) dst imm s

/-- `XOR64_X` (R171): 64-bit bitwise exclusive or, register operand. -/
def execXor64X (dst src : Reg) (s : State) : StepOutcome :=
  arith64X (fun a b => a ^^^ b) dst src s

/-- `MOV64_K` (R172): 64-bit move, immediate operand. -/
def execMov64K (dst : Reg) (imm : Half) (s : State) : StepOutcome :=
  .next (s.writeBack dst (sext64 imm))

/-- `MOV64_X` (R173): 64-bit move, register operand. -/
def execMov64X (dst src : Reg) (s : State) : StepOutcome :=
  readReg s src fun b => .next (s.writeBack dst b)

/-- `ARSH64_K` (R174): 64-bit arithmetic (sign extending) shift right, immediate operand. -/
def execArsh64K (dst : Reg) (imm : Half) (s : State) : StepOutcome :=
  shift64K (fun a n => a.sshiftRight n) dst imm s

/-- `ARSH64_X` (R175): 64-bit arithmetic (sign extending) shift right, register operand. -/
def execArsh64X (dst src : Reg) (s : State) : StepOutcome :=
  shift64X (fun a n => a.sshiftRight n) dst src s

end Sys2Proof.Machine
end

