-- ==== Sys2Proof/Machine/Atomic.lean ====
section
/-! DEFINITION. The atomic operations (`47_atomic.md` R280 to R300). -/

namespace Sys2Proof.Machine

open Sys2Proof

/-- `ATOMIC_ADD32` (R281): 32-bit atomic add. -/
def execAtomicAdd32 (dst src : Reg) (offset : BitVec 16) (s : State) : StepOutcome :=
  atomicModify 4 (onLow (fun a b => a + b)) dst src offset s

/-- `ATOMIC_FETCH_ADD32` (R282): 32-bit atomic add, returning the old value. -/
def execAtomicFetchAdd32 (dst src : Reg) (offset : BitVec 16) (s : State) : StepOutcome :=
  atomicFetch 4 (onLow (fun a b => a + b)) dst src offset s

/-- `ATOMIC_OR32` (R283): 32-bit atomic or. -/
def execAtomicOr32 (dst src : Reg) (offset : BitVec 16) (s : State) : StepOutcome :=
  atomicModify 4 (onLow (fun a b => a ||| b)) dst src offset s

/-- `ATOMIC_FETCH_OR32` (R284): 32-bit atomic or, returning the old value. -/
def execAtomicFetchOr32 (dst src : Reg) (offset : BitVec 16) (s : State) : StepOutcome :=
  atomicFetch 4 (onLow (fun a b => a ||| b)) dst src offset s

/-- `ATOMIC_AND32` (R285): 32-bit atomic and. -/
def execAtomicAnd32 (dst src : Reg) (offset : BitVec 16) (s : State) : StepOutcome :=
  atomicModify 4 (onLow (fun a b => a &&& b)) dst src offset s

/-- `ATOMIC_FETCH_AND32` (R286): 32-bit atomic and, returning the old value. -/
def execAtomicFetchAnd32 (dst src : Reg) (offset : BitVec 16) (s : State) : StepOutcome :=
  atomicFetch 4 (onLow (fun a b => a &&& b)) dst src offset s

/-- `ATOMIC_XOR32` (R287): 32-bit atomic exclusive or. -/
def execAtomicXor32 (dst src : Reg) (offset : BitVec 16) (s : State) : StepOutcome :=
  atomicModify 4 (onLow (fun a b => a ^^^ b)) dst src offset s

/-- `ATOMIC_FETCH_XOR32` (R288): 32-bit atomic exclusive or, returning the old value. -/
def execAtomicFetchXor32 (dst src : Reg) (offset : BitVec 16) (s : State) : StepOutcome :=
  atomicFetch 4 (onLow (fun a b => a ^^^ b)) dst src offset s

/-- `ATOMIC_XCHG32` (R289): 32-bit atomic exchange. -/
def execAtomicXchg32 (dst src : Reg) (offset : BitVec 16) (s : State) : StepOutcome :=
  atomicFetch 4 (onLow (fun _ b => b)) dst src offset s

/-- `ATOMIC_CMPXCHG32` (R290): 32-bit atomic compare and exchange. -/
def execAtomicCmpxchg32 (dst src : Reg) (offset : BitVec 16) (s : State) : StepOutcome :=
  atomicCompareExchange 4 (fun v => zext64 (low32 v)) dst src offset s

/-- `ATOMIC_ADD64` (R291): 64-bit atomic add. -/
def execAtomicAdd64 (dst src : Reg) (offset : BitVec 16) (s : State) : StepOutcome :=
  atomicModify 8 (fun a b => a + b) dst src offset s

/-- `ATOMIC_FETCH_ADD64` (R292): 64-bit atomic add, returning the old value. -/
def execAtomicFetchAdd64 (dst src : Reg) (offset : BitVec 16) (s : State) : StepOutcome :=
  atomicFetch 8 (fun a b => a + b) dst src offset s

/-- `ATOMIC_OR64` (R293): 64-bit atomic or. -/
def execAtomicOr64 (dst src : Reg) (offset : BitVec 16) (s : State) : StepOutcome :=
  atomicModify 8 (fun a b => a ||| b) dst src offset s

/-- `ATOMIC_FETCH_OR64` (R294): 64-bit atomic or, returning the old value. -/
def execAtomicFetchOr64 (dst src : Reg) (offset : BitVec 16) (s : State) : StepOutcome :=
  atomicFetch 8 (fun a b => a ||| b) dst src offset s

/-- `ATOMIC_AND64` (R295): 64-bit atomic and. -/
def execAtomicAnd64 (dst src : Reg) (offset : BitVec 16) (s : State) : StepOutcome :=
  atomicModify 8 (fun a b => a &&& b) dst src offset s

/-- `ATOMIC_FETCH_AND64` (R296): 64-bit atomic and, returning the old value. -/
def execAtomicFetchAnd64 (dst src : Reg) (offset : BitVec 16) (s : State) : StepOutcome :=
  atomicFetch 8 (fun a b => a &&& b) dst src offset s

/-- `ATOMIC_XOR64` (R297): 64-bit atomic exclusive or. -/
def execAtomicXor64 (dst src : Reg) (offset : BitVec 16) (s : State) : StepOutcome :=
  atomicModify 8 (fun a b => a ^^^ b) dst src offset s

/-- `ATOMIC_FETCH_XOR64` (R298): 64-bit atomic exclusive or, returning the old value. -/
def execAtomicFetchXor64 (dst src : Reg) (offset : BitVec 16) (s : State) : StepOutcome :=
  atomicFetch 8 (fun a b => a ^^^ b) dst src offset s

/-- `ATOMIC_XCHG64` (R299): 64-bit atomic exchange. -/
def execAtomicXchg64 (dst src : Reg) (offset : BitVec 16) (s : State) : StepOutcome :=
  atomicFetch 8 (fun _ b => b) dst src offset s

/-- `ATOMIC_CMPXCHG64` (R300): 64-bit atomic compare and exchange. -/
def execAtomicCmpxchg64 (dst src : Reg) (offset : BitVec 16) (s : State) : StepOutcome :=
  atomicCompareExchange 8 (fun v => v) dst src offset s

end Sys2Proof.Machine
end

