-- ==== Sys2Proof/Machine/ByteSwap.lean ====
section
/-! DEFINITION. The byte swap instructions (`42_byteswap.md` R180 to R186). -/

namespace Sys2Proof.Machine

open Sys2Proof

/-- `LE16` (R181): convert the low 16 bits of a register between host byte order and little-endian. -/
def execLe16 (dst : Reg) (s : State) : StepOutcome :=
  byteSwap (toLittle s.cfg.endian swap16) dst s

/-- `LE32` (R182): convert the low 32 bits of a register between host byte order and little-endian. -/
def execLe32 (dst : Reg) (s : State) : StepOutcome :=
  byteSwap (toLittle s.cfg.endian swap32) dst s

/-- `LE64` (R183): convert a register between host byte order and little-endian. -/
def execLe64 (dst : Reg) (s : State) : StepOutcome :=
  byteSwap (toLittle s.cfg.endian swap64) dst s

/-- `BE16` (R184): convert the low 16 bits of a register between host byte order and big-endian. -/
def execBe16 (dst : Reg) (s : State) : StepOutcome :=
  byteSwap (toBig s.cfg.endian swap16) dst s

/-- `BE32` (R185): convert the low 32 bits of a register between host byte order and big-endian. -/
def execBe32 (dst : Reg) (s : State) : StepOutcome :=
  byteSwap (toBig s.cfg.endian swap32) dst s

/-- `BE64` (R186): convert a register between host byte order and big-endian. -/
def execBe64 (dst : Reg) (s : State) : StepOutcome :=
  byteSwap (toBig s.cfg.endian swap64) dst s

end Sys2Proof.Machine
end

