-- ==== Sys2Proof/Machine/CallExit.lean ====
section
/-! DEFINITION. Calls and exit (`45_call_exit.md` R246 to R253). -/

namespace Sys2Proof.Machine

open Sys2Proof

/-- R1 to R5, the argument registers in the order a helper reads them (R247, R252). -/
def argumentRegisters : List Reg := [.r1, .r2, .r3, .r4, .r5]

/-- What a helper's return leaves (R247, R248, `10_state.md` R28): R0 holds the result, R1 to R5 nothing,
R6 to R10 and the call stack are as they were, and data memory and the platform's regions are the
outcome's. The next call takes the next of `choices` (log 7). -/
def helperReturn (s : State) (result : RegCell) (edits : List MemEdit) (regions : List Region) : State :=
  { s with
    regs := (s.regs.set .r0 result).clobberArgs, pc := s.pc + 1,
    mem := Memory.editAll s.mem edits, grantedRegions := regions,
    choices := s.choices.tail }

/-- The call of a helper function (R247, R250): the table's entry or `UnknownHelper`, the arguments it
reads or `UnwrittenRegister`, and then one outcome of its contract (R248). -/
def helperCall (space : HelperSpace) (table : List HelperEntry) (imm : Half) (s : State) : StepOutcome :=
  match table.find? fun h => decide (h.number = imm.toInt) with
  | none => raise s (.unknownHelper space imm.toInt)
  | some h =>
    readRegs s (argumentRegisters.take h.nargs.val) fun args =>
      match nextHelperOutcome s h.run args with
      | .faulted info => raise s (.helperFault imm.toInt info)
      | .returned result edits regions => .next (helperReturn s result edits regions)

/-- The displacement of a BPF-local call (R249). -/
def localDisplacement (field : LocalCallField) (offset : BitVec 16) (imm : Half) : Int :=
  match field with
  | .offset => offset.toInt
  | .imm => imm.toInt

/-- The record a BPF-local call pushes (R249, `10_state.md` R36). -/
def callerFrame (s : State) : Frame :=
  { ret := s.pc + 1, fp := s.regs.r10, saved6 := s.regs.r6, saved7 := s.regs.r7,
    saved8 := s.regs.r8, saved9 := s.regs.r9 }

/-- R6 to R9 as the callee finds them (R249, R252). -/
def calleeSavedRegs (s : State) : RegFile :=
  match s.cfg.calleeSaved with
  | .check => s.regs
  | .machine => s.regs.clobberSaved

/-- The callee's R10 (R249, R253): the frame pointer of the depth after the push. -/
def calleeFramePointer (s : State) : Word := s.cfg.framePtr (s.frames.length + 1)

/-- The state at a BPF-local function's first instruction (R249): R0 and the new frame's bytes hold
nothing. -/
def enterCallee (s : State) (target : Nat) : State :=
  { s with
    regs := { calleeSavedRegs s with r0 := .unwritten, r10 := calleeFramePointer s },
    pc := target, frames := callerFrame s :: s.frames,
    mem := Memory.forget s.mem (s.cfg.frameRegion (calleeFramePointer s)).base.toNat s.cfg.stackSize.toNat }

/-- A saved cell that is a value must be in the register again; one that was `unwritten` is not checked
(R251). -/
def cellKept (saved now : RegCell) : Bool :=
  match saved with
  | .unwritten => true
  | .value _ => decide (now = saved)

/-- The lowest of R6 to R9 that a returning function has clobbered, under `cfg.CALLEE_SAVED = check` (R251). -/
def clobberedRegister (s : State) (f : Frame) : Option Reg :=
  match s.cfg.calleeSaved with
  | .machine => none
  | .check =>
    if cellKept f.saved6 s.regs.r6 = false then some .r6
    else if cellKept f.saved7 s.regs.r7 = false then some .r7
    else if cellKept f.saved8 s.regs.r8 = false then some .r8
    else if cellKept f.saved9 s.regs.r9 = false then some .r9
    else none

/-- The state after a return to the caller (R251): R6 to R9 and R10 are the caller's again, R1 to R5 hold
nothing, R0 keeps its cell. -/
def leaveCallee (s : State) (f : Frame) (rest : List Frame) : State :=
  { s with
    regs :=
      { s.regs.clobberArgs with
        r6 := f.saved6, r7 := f.saved7, r8 := f.saved8, r9 := f.saved9, r10 := f.fp },
    pc := f.ret, frames := rest }

/-- `CALL_HELPER` (R247): call a platform-agnostic helper function. -/
def execCallHelper (imm : Half) (s : State) : StepOutcome :=
  helperCall .agnostic s.cfg.helperAgnostic imm s

/-- `CALL_LOCAL` (R249): call a BPF-local function. -/
def execCallLocal (offset : BitVec 16) (imm : Half) (s : State) : StepOutcome :=
  if s.cfg.maxCallDepth ≤ s.frames.length then raise s .callDepthExceeded
  else
    let target := jumpTarget s (localDisplacement s.cfg.localCallField offset imm)
    if target < 0 then raise s (.pcOutOfRange target) else .next (enterCallee s target.toNat)

/-- `CALL_HELPER_SPECIFIC` (R250): call a platform-specific helper function. -/
def execCallHelperSpecific (imm : Half) (s : State) : StepOutcome :=
  helperCall .specific s.cfg.helperSpecific imm s

/-- `EXIT` (R251): return from a BPF-local function, or end the program. -/
def execExit (s : State) : StepOutcome :=
  match s.frames with
  | [] => readReg s .r0 fun v => .next { s with status := .exited v, pc := s.pc + 1 }
  | f :: rest =>
    match clobberedRegister s f with
    | some r => raise s (.calleeSavedClobbered r)
    | none => .next (leaveCallee s f rest)

end Sys2Proof.Machine
end

