-- ==== Sys2Proof/Machine/Imm64.lean ====
section
/-! DEFINITION. The 64-bit immediate instructions (`48_lddw.md` R310 to R318). They fill two slots. -/

namespace Sys2Proof.Machine

open Sys2Proof

/-- `LDDW` (R311): load a 64-bit constant. -/
def execLddw (dst : Reg) (imm nextImm : Half) (s : State) : StepOutcome :=
  .next (s.writeBackWide dst (nextImm ++ imm))

/-- `LD_MAP_FD` (R312): load the address of the map object with a given file descriptor. -/
def execLdMapFd (dst : Reg) (imm : Half) (s : State) : StepOutcome :=
  platformValue s s.cfg.hasMaps 1 imm (mapByFdAt s.cfg imm) fun v =>
    .next (s.writeBackWide dst v)

/-- `LD_MAP_VALUE_FD` (R313): load the address of a byte in the value area of the map with a given file descriptor. -/
def execLdMapValueFd (dst : Reg) (imm nextImm : Half) (s : State) : StepOutcome :=
  platformValue s s.cfg.hasMaps 2 imm (mapValueAt s.cfg (mapByFdAt s.cfg imm) nextImm) fun v =>
    .next (s.writeBackWide dst v)

/-- `LD_VAR_ADDR` (R314): load the address of a platform variable. -/
def execLdVarAddr (dst : Reg) (imm : Half) (s : State) : StepOutcome :=
  platformValue s s.cfg.hasVariables 3 imm (variableAddrAt s.cfg imm) fun v =>
    .next (s.writeBackWide dst v)

/-- `LD_CODE_ADDR` (R315): load the address of an instruction of the program. -/
def execLdCodeAddr (dst : Reg) (imm : Half) (s : State) : StepOutcome :=
  platformValue s s.cfg.codeAddr.isSome 4 imm (codeAddrAt s.cfg s.pc imm) fun v =>
    .next (s.writeBackWide dst v)

/-- `LD_MAP_IDX` (R316): load the address of the map object with a given index. -/
def execLdMapIdx (dst : Reg) (imm : Half) (s : State) : StepOutcome :=
  platformValue s s.cfg.hasMaps 5 imm (mapByIdxAt s.cfg imm) fun v =>
    .next (s.writeBackWide dst v)

/-- `LD_MAP_VALUE_IDX` (R317): load the address of a byte in the value area of the map with a given index. -/
def execLdMapValueIdx (dst : Reg) (imm nextImm : Half) (s : State) : StepOutcome :=
  platformValue s s.cfg.hasMaps 6 imm (mapValueAt s.cfg (mapByIdxAt s.cfg imm) nextImm) fun v =>
    .next (s.writeBackWide dst v)

end Sys2Proof.Machine
end

