-- ==== Sys2Proof/Machine/Flags.lean ====
section
/-! DEFINITION. The machine has no flags, no condition codes and no predicate registers
(`10_state.md` R33): there is no flag computation. A conditional jump compares its operands directly,
and the eleven comparisons (`30_encoding.md` R97, `43_jump64.md` R214, `44_jump32.md` R220) are here,
once for both widths. -/

namespace Sys2Proof.Machine

/-- JEQ: `dst == src`. -/
def condEq {n : Nat} (a b : BitVec n) : Bool := decide (a = b)

/-- JNE: `dst != src`. -/
def condNe {n : Nat} (a b : BitVec n) : Bool := decide (a ≠ b)

/-- JSET: `(dst & src) != 0`. -/
def condSet {n : Nat} (a b : BitVec n) : Bool := decide (a &&& b ≠ 0)

/-- JGT: `dst > src`, unsigned. -/
def condGt {n : Nat} (a b : BitVec n) : Bool := decide (a.toNat > b.toNat)

/-- JGE: `dst >= src`, unsigned. -/
def condGe {n : Nat} (a b : BitVec n) : Bool := decide (a.toNat ≥ b.toNat)

/-- JLT: `dst < src`, unsigned. -/
def condLt {n : Nat} (a b : BitVec n) : Bool := decide (a.toNat < b.toNat)

/-- JLE: `dst <= src`, unsigned. -/
def condLe {n : Nat} (a b : BitVec n) : Bool := decide (a.toNat ≤ b.toNat)

/-- JSGT: `dst > src`, signed two's complement. -/
def condSgt {n : Nat} (a b : BitVec n) : Bool := decide (a.toInt > b.toInt)

/-- JSGE: `dst >= src`, signed two's complement. -/
def condSge {n : Nat} (a b : BitVec n) : Bool := decide (a.toInt ≥ b.toInt)

/-- JSLT: `dst < src`, signed two's complement. -/
def condSlt {n : Nat} (a b : BitVec n) : Bool := decide (a.toInt < b.toInt)

/-- JSLE: `dst <= src`, signed two's complement. -/
def condSle {n : Nat} (a b : BitVec n) : Bool := decide (a.toInt ≤ b.toInt)

end Sys2Proof.Machine
end

