-- ==== Sys2Proof/Machine/Jump32.lean ====
section
/-! DEFINITION. The conditional jumps with 32-bit operands, class BPF_JMP32 (`44_jump32.md` R220 to R242). -/

namespace Sys2Proof.Machine

open Sys2Proof

/-- `JEQ32_K` (R221): jump if equal, 32-bit operands, against an immediate. -/
def execJeq32K (dst : Reg) (offset : BitVec 16) (imm : Half) (s : State) : StepOutcome :=
  jump32K condEq dst offset imm s

/-- `JEQ32_X` (R222): jump if equal, 32-bit operands, against a register. -/
def execJeq32X (dst src : Reg) (offset : BitVec 16) (s : State) : StepOutcome :=
  jump32X condEq dst src offset s

/-- `JGT32_K` (R223): jump if greater than, unsigned, 32-bit operands, against an immediate. -/
def execJgt32K (dst : Reg) (offset : BitVec 16) (imm : Half) (s : State) : StepOutcome :=
  jump32K condGt dst offset imm s

/-- `JGT32_X` (R224): jump if greater than, unsigned, 32-bit operands, against a register. -/
def execJgt32X (dst src : Reg) (offset : BitVec 16) (s : State) : StepOutcome :=
  jump32X condGt dst src offset s

/-- `JGE32_K` (R225): jump if greater than or equal, unsigned, 32-bit operands, against an immediate. -/
def execJge32K (dst : Reg) (offset : BitVec 16) (imm : Half) (s : State) : StepOutcome :=
  jump32K condGe dst offset imm s

/-- `JGE32_X` (R226): jump if greater than or equal, unsigned, 32-bit operands, against a register. -/
def execJge32X (dst src : Reg) (offset : BitVec 16) (s : State) : StepOutcome :=
  jump32X condGe dst src offset s

/-- `JSET32_K` (R227): jump if any common bit set, 32-bit operands, against an immediate. -/
def execJset32K (dst : Reg) (offset : BitVec 16) (imm : Half) (s : State) : StepOutcome :=
  jump32K condSet dst offset imm s

/-- `JSET32_X` (R228): jump if any common bit set, 32-bit operands, against a register. -/
def execJset32X (dst src : Reg) (offset : BitVec 16) (s : State) : StepOutcome :=
  jump32X condSet dst src offset s

/-- `JNE32_K` (R229): jump if not equal, 32-bit operands, against an immediate. -/
def execJne32K (dst : Reg) (offset : BitVec 16) (imm : Half) (s : State) : StepOutcome :=
  jump32K condNe dst offset imm s

/-- `JNE32_X` (R230): jump if not equal, 32-bit operands, against a register. -/
def execJne32X (dst src : Reg) (offset : BitVec 16) (s : State) : StepOutcome :=
  jump32X condNe dst src offset s

/-- `JSGT32_K` (R231): jump if greater than, signed, 32-bit operands, against an immediate. -/
def execJsgt32K (dst : Reg) (offset : BitVec 16) (imm : Half) (s : State) : StepOutcome :=
  jump32K condSgt dst offset imm s

/-- `JSGT32_X` (R232): jump if greater than, signed, 32-bit operands, against a register. -/
def execJsgt32X (dst src : Reg) (offset : BitVec 16) (s : State) : StepOutcome :=
  jump32X condSgt dst src offset s

/-- `JSGE32_K` (R233): jump if greater than or equal, signed, 32-bit operands, against an immediate. -/
def execJsge32K (dst : Reg) (offset : BitVec 16) (imm : Half) (s : State) : StepOutcome :=
  jump32K condSge dst offset imm s

/-- `JSGE32_X` (R234): jump if greater than or equal, signed, 32-bit operands, against a register. -/
def execJsge32X (dst src : Reg) (offset : BitVec 16) (s : State) : StepOutcome :=
  jump32X condSge dst src offset s

/-- `JLT32_K` (R235): jump if less than, unsigned, 32-bit operands, against an immediate. -/
def execJlt32K (dst : Reg) (offset : BitVec 16) (imm : Half) (s : State) : StepOutcome :=
  jump32K condLt dst offset imm s

/-- `JLT32_X` (R236): jump if less than, unsigned, 32-bit operands, against a register. -/
def execJlt32X (dst src : Reg) (offset : BitVec 16) (s : State) : StepOutcome :=
  jump32X condLt dst src offset s

/-- `JLE32_K` (R237): jump if less than or equal, unsigned, 32-bit operands, against an immediate. -/
def execJle32K (dst : Reg) (offset : BitVec 16) (imm : Half) (s : State) : StepOutcome :=
  jump32K condLe dst offset imm s

/-- `JLE32_X` (R238): jump if less than or equal, unsigned, 32-bit operands, against a register. -/
def execJle32X (dst src : Reg) (offset : BitVec 16) (s : State) : StepOutcome :=
  jump32X condLe dst src offset s

/-- `JSLT32_K` (R239): jump if less than, signed, 32-bit operands, against an immediate. -/
def execJslt32K (dst : Reg) (offset : BitVec 16) (imm : Half) (s : State) : StepOutcome :=
  jump32K condSlt dst offset imm s

/-- `JSLT32_X` (R240): jump if less than, signed, 32-bit operands, against a register. -/
def execJslt32X (dst src : Reg) (offset : BitVec 16) (s : State) : StepOutcome :=
  jump32X condSlt dst src offset s

/-- `JSLE32_K` (R241): jump if less than or equal, signed, 32-bit operands, against an immediate. -/
def execJsle32K (dst : Reg) (offset : BitVec 16) (imm : Half) (s : State) : StepOutcome :=
  jump32K condSle dst offset imm s

/-- `JSLE32_X` (R242): jump if less than or equal, signed, 32-bit operands, against a register. -/
def execJsle32X (dst src : Reg) (offset : BitVec 16) (s : State) : StepOutcome :=
  jump32X condSle dst src offset s

end Sys2Proof.Machine
end

