-- ==== Sys2Proof/Machine/Jump64.lean ====
section
/-! DEFINITION. The jump instructions of class BPF_JMP (`43_jump64.md` R190 to R214). -/

namespace Sys2Proof.Machine

open Sys2Proof

/-- `JA` (R191): jump always. -/
def execJa (offset : BitVec 16) (s : State) : StepOutcome :=
  jump s offset.toInt

/-- `JEQ_K` (R192): jump if equal, 64-bit operands, against an immediate. -/
def execJeqK (dst : Reg) (offset : BitVec 16) (imm : Half) (s : State) : StepOutcome :=
  jump64K condEq dst offset imm s

/-- `JEQ_X` (R193): jump if equal, 64-bit operands, against a register. -/
def execJeqX (dst src : Reg) (offset : BitVec 16) (s : State) : StepOutcome :=
  jump64X condEq dst src offset s

/-- `JGT_K` (R194): jump if greater than, unsigned, 64-bit operands, against an immediate. -/
def execJgtK (dst : Reg) (offset : BitVec 16) (imm : Half) (s : State) : StepOutcome :=
  jump64K condGt dst offset imm s

/-- `JGT_X` (R195): jump if greater than, unsigned, 64-bit operands, against a register. -/
def execJgtX (dst src : Reg) (offset : BitVec 16) (s : State) : StepOutcome :=
  jump64X condGt dst src offset s

/-- `JGE_K` (R196): jump if greater than or equal, unsigned, 64-bit operands, against an immediate. -/
def execJgeK (dst : Reg) (offset : BitVec 16) (imm : Half) (s : State) : StepOutcome :=
  jump64K condGe dst offset imm s

/-- `JGE_X` (R197): jump if greater than or equal, unsigned, 64-bit operands, against a register. -/
def execJgeX (dst src : Reg) (offset : BitVec 16) (s : State) : StepOutcome :=
  jump64X condGe dst src offset s

/-- `JSET_K` (R198): jump if any common bit set, 64-bit operands, against an immediate. -/
def execJsetK (dst : Reg) (offset : BitVec 16) (imm : Half) (s : State) : StepOutcome :=
  jump64K condSet dst offset imm s

/-- `JSET_X` (R199): jump if any common bit set, 64-bit operands, against a register. -/
def execJsetX (dst src : Reg) (offset : BitVec 16) (s : State) : StepOutcome :=
  jump64X condSet dst src offset s

/-- `JNE_K` (R200): jump if not equal, 64-bit operands, against an immediate. -/
def execJneK (dst : Reg) (offset : BitVec 16) (imm : Half) (s : State) : StepOutcome :=
  jump64K condNe dst offset imm s

/-- `JNE_X` (R201): jump if not equal, 64-bit operands, against a register. -/
def execJneX (dst src : Reg) (offset : BitVec 16) (s : State) : StepOutcome :=
  jump64X condNe dst src offset s

/-- `JSGT_K` (R202): jump if greater than, signed, 64-bit operands, against an immediate. -/
def execJsgtK (dst : Reg) (offset : BitVec 16) (imm : Half) (s : State) : StepOutcome :=
  jump64K condSgt dst offset imm s

/-- `JSGT_X` (R203): jump if greater than, signed, 64-bit operands, against a register. -/
def execJsgtX (dst src : Reg) (offset : BitVec 16) (s : State) : StepOutcome :=
  jump64X condSgt dst src offset s

/-- `JSGE_K` (R204): jump if greater than or equal, signed, 64-bit operands, against an immediate. -/
def execJsgeK (dst : Reg) (offset : BitVec 16) (imm : Half) (s : State) : StepOutcome :=
  jump64K condSge dst offset imm s

/-- `JSGE_X` (R205): jump if greater than or equal, signed, 64-bit operands, against a register. -/
def execJsgeX (dst src : Reg) (offset : BitVec 16) (s : State) : StepOutcome :=
  jump64X condSge dst src offset s

/-- `JLT_K` (R206): jump if less than, unsigned, 64-bit operands, against an immediate. -/
def execJltK (dst : Reg) (offset : BitVec 16) (imm : Half) (s : State) : StepOutcome :=
  jump64K condLt dst offset imm s

/-- `JLT_X` (R207): jump if less than, unsigned, 64-bit operands, against a register. -/
def execJltX (dst src : Reg) (offset : BitVec 16) (s : State) : StepOutcome :=
  jump64X condLt dst src offset s

/-- `JLE_K` (R208): jump if less than or equal, unsigned, 64-bit operands, against an immediate. -/
def execJleK (dst : Reg) (offset : BitVec 16) (imm : Half) (s : State) : StepOutcome :=
  jump64K condLe dst offset imm s

/-- `JLE_X` (R209): jump if less than or equal, unsigned, 64-bit operands, against a register. -/
def execJleX (dst src : Reg) (offset : BitVec 16) (s : State) : StepOutcome :=
  jump64X condLe dst src offset s

/-- `JSLT_K` (R210): jump if less than, signed, 64-bit operands, against an immediate. -/
def execJsltK (dst : Reg) (offset : BitVec 16) (imm : Half) (s : State) : StepOutcome :=
  jump64K condSlt dst offset imm s

/-- `JSLT_X` (R211): jump if less than, signed, 64-bit operands, against a register. -/
def execJsltX (dst src : Reg) (offset : BitVec 16) (s : State) : StepOutcome :=
  jump64X condSlt dst src offset s

/-- `JSLE_K` (R212): jump if less than or equal, signed, 64-bit operands, against an immediate. -/
def execJsleK (dst : Reg) (offset : BitVec 16) (imm : Half) (s : State) : StepOutcome :=
  jump64K condSle dst offset imm s

/-- `JSLE_X` (R213): jump if less than or equal, signed, 64-bit operands, against a register. -/
def execJsleX (dst src : Reg) (offset : BitVec 16) (s : State) : StepOutcome :=
  jump64X condSle dst src offset s

end Sys2Proof.Machine
end

