-- ==== Sys2Proof/Machine/Legacy.lean ====
section
/-! DEFINITION. The legacy packet access instructions (`49_legacy_packet.md` R325 to R333). The spec gives them no
meaning of its own: without `cfg.LEGACY_PACKET` each raises `LegacyPacketUnsupported`; with it, the step is
the platform's answer. -/

namespace Sys2Proof.Machine

open Sys2Proof

/-- The pseudocode the eight rules share (R325, R326): the step is `cfg.LEGACY_PACKET` of the fields and the
machine's state (log 8). An answer that is a next state replaces the architectural state and nothing
else; an answer that is a fault is raised (R340). -/
def legacyAccess (fields : LegacyFields) (s : State) : StepOutcome :=
  match s.cfg.legacyPacket with
  | none => raise s (.illegalInstruction s.pc .legacyPacketUnsupported)
  | some fn =>
    match legacyAnswer fn fields s.arch with
    | .fault f => raise s f
    | .next regs pc frames exitValue edits regions =>
      .next { s with
        regs := regs, pc := pc, frames := frames,
        status := match exitValue with
          | some v => .exited v
          | none => .running
        mem := Memory.editAll s.mem edits, grantedRegions := regions }

/-- `LD_ABS_W` (R326): legacy packet access, absolute, size W (4 bytes). -/
def execLdAbsW (dst src : BitVec 4) (offset : BitVec 16) (imm : Half) (s : State) : StepOutcome :=
  legacyAccess ⟨0x20, dst, src, offset, imm⟩ s

/-- `LD_ABS_H` (R327): legacy packet access, absolute, size H (2 bytes). -/
def execLdAbsH (dst src : BitVec 4) (offset : BitVec 16) (imm : Half) (s : State) : StepOutcome :=
  legacyAccess ⟨0x28, dst, src, offset, imm⟩ s

/-- `LD_ABS_B` (R328): legacy packet access, absolute, size B (1 byte). -/
def execLdAbsB (dst src : BitVec 4) (offset : BitVec 16) (imm : Half) (s : State) : StepOutcome :=
  legacyAccess ⟨0x30, dst, src, offset, imm⟩ s

/-- `LD_ABS_DW` (R329): legacy packet access, absolute, size DW (8 bytes). -/
def execLdAbsDw (dst src : BitVec 4) (offset : BitVec 16) (imm : Half) (s : State) : StepOutcome :=
  legacyAccess ⟨0x38, dst, src, offset, imm⟩ s

/-- `LD_IND_W` (R330): legacy packet access, indirect, size W (4 bytes). -/
def execLdIndW (dst src : BitVec 4) (offset : BitVec 16) (imm : Half) (s : State) : StepOutcome :=
  legacyAccess ⟨0x40, dst, src, offset, imm⟩ s

/-- `LD_IND_H` (R331): legacy packet access, indirect, size H (2 bytes). -/
def execLdIndH (dst src : BitVec 4) (offset : BitVec 16) (imm : Half) (s : State) : StepOutcome :=
  legacyAccess ⟨0x48, dst, src, offset, imm⟩ s

/-- `LD_IND_B` (R332): legacy packet access, indirect, size B (1 byte). -/
def execLdIndB (dst src : BitVec 4) (offset : BitVec 16) (imm : Half) (s : State) : StepOutcome :=
  legacyAccess ⟨0x50, dst, src, offset, imm⟩ s

/-- `LD_IND_DW` (R333): legacy packet access, indirect, size DW (8 bytes). -/
def execLdIndDw (dst src : BitVec 4) (offset : BitVec 16) (imm : Half) (s : State) : StepOutcome :=
  legacyAccess ⟨0x58, dst, src, offset, imm⟩ s

end Sys2Proof.Machine
end

