-- ==== Sys2Proof/Machine/LoadStore.lean ====
section
/-! DEFINITION. The regular loads and stores (`46_load_store.md` R260 to R272). -/

namespace Sys2Proof.Machine

open Sys2Proof

/-- `LDXW` (R261): load 4 bytes from memory into a register, zero-extended. -/
def execLdxw (dst src : Reg) (offset : BitVec 16) (s : State) : StepOutcome :=
  load 4 dst src offset s

/-- `LDXH` (R262): load 2 bytes from memory into a register, zero-extended. -/
def execLdxh (dst src : Reg) (offset : BitVec 16) (s : State) : StepOutcome :=
  load 2 dst src offset s

/-- `LDXB` (R263): load 1 byte from memory into a register, zero-extended. -/
def execLdxb (dst src : Reg) (offset : BitVec 16) (s : State) : StepOutcome :=
  load 1 dst src offset s

/-- `LDXDW` (R264): load 8 bytes from memory into a register. -/
def execLdxdw (dst src : Reg) (offset : BitVec 16) (s : State) : StepOutcome :=
  load 8 dst src offset s

/-- `STW` (R265): store an immediate to 4 bytes of memory. -/
def execStw (dst : Reg) (offset : BitVec 16) (imm : Half) (s : State) : StepOutcome :=
  storeImm 4 dst offset imm s

/-- `STH` (R266): store an immediate to 2 bytes of memory. -/
def execSth (dst : Reg) (offset : BitVec 16) (imm : Half) (s : State) : StepOutcome :=
  storeImm 2 dst offset imm s

/-- `STB` (R267): store an immediate to 1 byte of memory. -/
def execStb (dst : Reg) (offset : BitVec 16) (imm : Half) (s : State) : StepOutcome :=
  storeImm 1 dst offset imm s

/-- `STDW` (R268): store an immediate to 8 bytes of memory. -/
def execStdw (dst : Reg) (offset : BitVec 16) (imm : Half) (s : State) : StepOutcome :=
  storeImm 8 dst offset imm s

/-- `STXW` (R269): store the low 4 bytes of a register to memory. -/
def execStxw (dst src : Reg) (offset : BitVec 16) (s : State) : StepOutcome :=
  storeReg 4 dst src offset s

/-- `STXH` (R270): store the low 2 bytes of a register to memory. -/
def execStxh (dst src : Reg) (offset : BitVec 16) (s : State) : StepOutcome :=
  storeReg 2 dst src offset s

/-- `STXB` (R271): store the low 1 byte of a register to memory. -/
def execStxb (dst src : Reg) (offset : BitVec 16) (s : State) : StepOutcome :=
  storeReg 1 dst src offset s

/-- `STXDW` (R272): store a register to 8 bytes of memory. -/
def execStxdw (dst src : Reg) (offset : BitVec 16) (s : State) : StepOutcome :=
  storeReg 8 dst src offset s

end Sys2Proof.Machine
end

