-- ==== Sys2Proof/Machine/Dispatch.lean ====
section
/-! DEFINITION. The meaning of every instruction, one arm per constructor. -/

namespace Sys2Proof.Machine

open Sys2Proof

def exec (i : Instr) (s : State) : Host.Outcome State Fault Refusal :=
  match i with
  | .add32K dst imm => Sys2Proof.Machine.execAdd32K dst imm s
  | .add32X dst src => Sys2Proof.Machine.execAdd32X dst src s
  | .sub32K dst imm => Sys2Proof.Machine.execSub32K dst imm s
  | .sub32X dst src => Sys2Proof.Machine.execSub32X dst src s
  | .mul32K dst imm => Sys2Proof.Machine.execMul32K dst imm s
  | .mul32X dst src => Sys2Proof.Machine.execMul32X dst src s
  | .div32K dst imm => Sys2Proof.Machine.execDiv32K dst imm s
  | .div32X dst src => Sys2Proof.Machine.execDiv32X dst src s
  | .or32K dst imm => Sys2Proof.Machine.execOr32K dst imm s
  | .or32X dst src => Sys2Proof.Machine.execOr32X dst src s
  | .and32K dst imm => Sys2Proof.Machine.execAnd32K dst imm s
  | .and32X dst src => Sys2Proof.Machine.execAnd32X dst src s
  | .lsh32K dst imm => Sys2Proof.Machine.execLsh32K dst imm s
  | .lsh32X dst src => Sys2Proof.Machine.execLsh32X dst src s
  | .rsh32K dst imm => Sys2Proof.Machine.execRsh32K dst imm s
  | .rsh32X dst src => Sys2Proof.Machine.execRsh32X dst src s
  | .neg32 dst => Sys2Proof.Machine.execNeg32 dst s
  | .mod32K dst imm => Sys2Proof.Machine.execMod32K dst imm s
  | .mod32X dst src => Sys2Proof.Machine.execMod32X dst src s
  | .xor32K dst imm => Sys2Proof.Machine.execXor32K dst imm s
  | .xor32X dst src => Sys2Proof.Machine.execXor32X dst src s
  | .mov32K dst imm => Sys2Proof.Machine.execMov32K dst imm s
  | .mov32X dst src => Sys2Proof.Machine.execMov32X dst src s
  | .arsh32K dst imm => Sys2Proof.Machine.execArsh32K dst imm s
  | .arsh32X dst src => Sys2Proof.Machine.execArsh32X dst src s
  | .add64K dst imm => Sys2Proof.Machine.execAdd64K dst imm s
  | .add64X dst src => Sys2Proof.Machine.execAdd64X dst src s
  | .sub64K dst imm => Sys2Proof.Machine.execSub64K dst imm s
  | .sub64X dst src => Sys2Proof.Machine.execSub64X dst src s
  | .mul64K dst imm => Sys2Proof.Machine.execMul64K dst imm s
  | .mul64X dst src => Sys2Proof.Machine.execMul64X dst src s
  | .div64K dst imm => Sys2Proof.Machine.execDiv64K dst imm s
  | .div64X dst src => Sys2Proof.Machine.execDiv64X dst src s
  | .or64K dst imm => Sys2Proof.Machine.execOr64K dst imm s
  | .or64X dst src => Sys2Proof.Machine.execOr64X dst src s
  | .and64K dst imm => Sys2Proof.Machine.execAnd64K dst imm s
  | .and64X dst src => Sys2Proof.Machine.execAnd64X dst src s
  | .lsh64K dst imm => Sys2Proof.Machine.execLsh64K dst imm s
  | .lsh64X dst src => Sys2Proof.Machine.execLsh64X dst src s
  | .rsh64K dst imm => Sys2Proof.Machine.execRsh64K dst imm s
  | .rsh64X dst src => Sys2Proof.Machine.execRsh64X dst src s
  | .neg64 dst => Sys2Proof.Machine.execNeg64 dst s
  | .mod64K dst imm => Sys2Proof.Machine.execMod64K dst imm s
  | .mod64X dst src => Sys2Proof.Machine.execMod64X dst src s
  | .xor64K dst imm => Sys2Proof.Machine.execXor64K dst imm s
  | .xor64X dst src => Sys2Proof.Machine.execXor64X dst src s
  | .mov64K dst imm => Sys2Proof.Machine.execMov64K dst imm s
  | .mov64X dst src => Sys2Proof.Machine.execMov64X dst src s
  | .arsh64K dst imm => Sys2Proof.Machine.execArsh64K dst imm s
  | .arsh64X dst src => Sys2Proof.Machine.execArsh64X dst src s
  | .le16 dst => Sys2Proof.Machine.execLe16 dst s
  | .le32 dst => Sys2Proof.Machine.execLe32 dst s
  | .le64 dst => Sys2Proof.Machine.execLe64 dst s
  | .be16 dst => Sys2Proof.Machine.execBe16 dst s
  | .be32 dst => Sys2Proof.Machine.execBe32 dst s
  | .be64 dst => Sys2Proof.Machine.execBe64 dst s
  | .ja offset => Sys2Proof.Machine.execJa offset s
  | .jeqK dst offset imm => Sys2Proof.Machine.execJeqK dst offset imm s
  | .jeqX dst src offset => Sys2Proof.Machine.execJeqX dst src offset s
  | .jgtK dst offset imm => Sys2Proof.Machine.execJgtK dst offset imm s
  | .jgtX dst src offset => Sys2Proof.Machine.execJgtX dst src offset s
  | .jgeK dst offset imm => Sys2Proof.Machine.execJgeK dst offset imm s
  | .jgeX dst src offset => Sys2Proof.Machine.execJgeX dst src offset s
  | .jsetK dst offset imm => Sys2Proof.Machine.execJsetK dst offset imm s
  | .jsetX dst src offset => Sys2Proof.Machine.execJsetX dst src offset s
  | .jneK dst offset imm => Sys2Proof.Machine.execJneK dst offset imm s
  | .jneX dst src offset => Sys2Proof.Machine.execJneX dst src offset s
  | .jsgtK dst offset imm => Sys2Proof.Machine.execJsgtK dst offset imm s
  | .jsgtX dst src offset => Sys2Proof.Machine.execJsgtX dst src offset s
  | .jsgeK dst offset imm => Sys2Proof.Machine.execJsgeK dst offset imm s
  | .jsgeX dst src offset => Sys2Proof.Machine.execJsgeX dst src offset s
  | .jltK dst offset imm => Sys2Proof.Machine.execJltK dst offset imm s
  | .jltX dst src offset => Sys2Proof.Machine.execJltX dst src offset s
  | .jleK dst offset imm => Sys2Proof.Machine.execJleK dst offset imm s
  | .jleX dst src offset => Sys2Proof.Machine.execJleX dst src offset s
  | .jsltK dst offset imm => Sys2Proof.Machine.execJsltK dst offset imm s
  | .jsltX dst src offset => Sys2Proof.Machine.execJsltX dst src offset s
  | .jsleK dst offset imm => Sys2Proof.Machine.execJsleK dst offset imm s
  | .jsleX dst src offset => Sys2Proof.Machine.execJsleX dst src offset s
  | .jeq32K dst offset imm => Sys2Proof.Machine.execJeq32K dst offset imm s
  | .jeq32X dst src offset => Sys2Proof.Machine.execJeq32X dst src offset s
  | .jgt32K dst offset imm => Sys2Proof.Machine.execJgt32K dst offset imm s
  | .jgt32X dst src offset => Sys2Proof.Machine.execJgt32X dst src offset s
  | .jge32K dst offset imm => Sys2Proof.Machine.execJge32K dst offset imm s
  | .jge32X dst src offset => Sys2Proof.Machine.execJge32X dst src offset s
  | .jset32K dst offset imm => Sys2Proof.Machine.execJset32K dst offset imm s
  | .jset32X dst src offset => Sys2Proof.Machine.execJset32X dst src offset s
  | .jne32K dst offset imm => Sys2Proof.Machine.execJne32K dst offset imm s
  | .jne32X dst src offset => Sys2Proof.Machine.execJne32X dst src offset s
  | .jsgt32K dst offset imm => Sys2Proof.Machine.execJsgt32K dst offset imm s
  | .jsgt32X dst src offset => Sys2Proof.Machine.execJsgt32X dst src offset s
  | .jsge32K dst offset imm => Sys2Proof.Machine.execJsge32K dst offset imm s
  | .jsge32X dst src offset => Sys2Proof.Machine.execJsge32X dst src offset s
  | .jlt32K dst offset imm => Sys2Proof.Machine.execJlt32K dst offset imm s
  | .jlt32X dst src offset => Sys2Proof.Machine.execJlt32X dst src offset s
  | .jle32K dst offset imm => Sys2Proof.Machine.execJle32K dst offset imm s
  | .jle32X dst src offset => Sys2Proof.Machine.execJle32X dst src offset s
  | .jslt32K dst offset imm => Sys2Proof.Machine.execJslt32K dst offset imm s
  | .jslt32X dst src offset => Sys2Proof.Machine.execJslt32X dst src offset s
  | .jsle32K dst offset imm => Sys2Proof.Machine.execJsle32K dst offset imm s
  | .jsle32X dst src offset => Sys2Proof.Machine.execJsle32X dst src offset s
  | .callHelper imm => Sys2Proof.Machine.execCallHelper imm s
  | .callLocal offset imm => Sys2Proof.Machine.execCallLocal offset imm s
  | .callHelperSpecific imm => Sys2Proof.Machine.execCallHelperSpecific imm s
  | .exit => Sys2Proof.Machine.execExit s
  | .ldxw dst src offset => Sys2Proof.Machine.execLdxw dst src offset s
  | .ldxh dst src offset => Sys2Proof.Machine.execLdxh dst src offset s
  | .ldxb dst src offset => Sys2Proof.Machine.execLdxb dst src offset s
  | .ldxdw dst src offset => Sys2Proof.Machine.execLdxdw dst src offset s
  | .stw dst offset imm => Sys2Proof.Machine.execStw dst offset imm s
  | .sth dst offset imm => Sys2Proof.Machine.execSth dst offset imm s
  | .stb dst offset imm => Sys2Proof.Machine.execStb dst offset imm s
  | .stdw dst offset imm => Sys2Proof.Machine.execStdw dst offset imm s
  | .stxw dst src offset => Sys2Proof.Machine.execStxw dst src offset s
  | .stxh dst src offset => Sys2Proof.Machine.execStxh dst src offset s
  | .stxb dst src offset => Sys2Proof.Machine.execStxb dst src offset s
  | .stxdw dst src offset => Sys2Proof.Machine.execStxdw dst src offset s
  | .atomicAdd32 dst src offset => Sys2Proof.Machine.execAtomicAdd32 dst src offset s
  | .atomicFetchAdd32 dst src offset => Sys2Proof.Machine.execAtomicFetchAdd32 dst src offset s
  | .atomicOr32 dst src offset => Sys2Proof.Machine.execAtomicOr32 dst src offset s
  | .atomicFetchOr32 dst src offset => Sys2Proof.Machine.execAtomicFetchOr32 dst src offset s
  | .atomicAnd32 dst src offset => Sys2Proof.Machine.execAtomicAnd32 dst src offset s
  | .atomicFetchAnd32 dst src offset => Sys2Proof.Machine.execAtomicFetchAnd32 dst src offset s
  | .atomicXor32 dst src offset => Sys2Proof.Machine.execAtomicXor32 dst src offset s
  | .atomicFetchXor32 dst src offset => Sys2Proof.Machine.execAtomicFetchXor32 dst src offset s
  | .atomicXchg32 dst src offset => Sys2Proof.Machine.execAtomicXchg32 dst src offset s
  | .atomicCmpxchg32 dst src offset => Sys2Proof.Machine.execAtomicCmpxchg32 dst src offset s
  | .atomicAdd64 dst src offset => Sys2Proof.Machine.execAtomicAdd64 dst src offset s
  | .atomicFetchAdd64 dst src offset => Sys2Proof.Machine.execAtomicFetchAdd64 dst src offset s
  | .atomicOr64 dst src offset => Sys2Proof.Machine.execAtomicOr64 dst src offset s
  | .atomicFetchOr64 dst src offset => Sys2Proof.Machine.execAtomicFetchOr64 dst src offset s
  | .atomicAnd64 dst src offset => Sys2Proof.Machine.execAtomicAnd64 dst src offset s
  | .atomicFetchAnd64 dst src offset => Sys2Proof.Machine.execAtomicFetchAnd64 dst src offset s
  | .atomicXor64 dst src offset => Sys2Proof.Machine.execAtomicXor64 dst src offset s
  | .atomicFetchXor64 dst src offset => Sys2Proof.Machine.execAtomicFetchXor64 dst src offset s
  | .atomicXchg64 dst src offset => Sys2Proof.Machine.execAtomicXchg64 dst src offset s
  | .atomicCmpxchg64 dst src offset => Sys2Proof.Machine.execAtomicCmpxchg64 dst src offset s
  | .lddw dst imm nextImm => Sys2Proof.Machine.execLddw dst imm nextImm s
  | .ldMapFd dst imm => Sys2Proof.Machine.execLdMapFd dst imm s
  | .ldMapValueFd dst imm nextImm => Sys2Proof.Machine.execLdMapValueFd dst imm nextImm s
  | .ldVarAddr dst imm => Sys2Proof.Machine.execLdVarAddr dst imm s
  | .ldCodeAddr dst imm => Sys2Proof.Machine.execLdCodeAddr dst imm s
  | .ldMapIdx dst imm => Sys2Proof.Machine.execLdMapIdx dst imm s
  | .ldMapValueIdx dst imm nextImm => Sys2Proof.Machine.execLdMapValueIdx dst imm nextImm s
  | .ldAbsW dst src offset imm => Sys2Proof.Machine.execLdAbsW dst src offset imm s
  | .ldAbsH dst src offset imm => Sys2Proof.Machine.execLdAbsH dst src offset imm s
  | .ldAbsB dst src offset imm => Sys2Proof.Machine.execLdAbsB dst src offset imm s
  | .ldAbsDw dst src offset imm => Sys2Proof.Machine.execLdAbsDw dst src offset imm s
  | .ldIndW dst src offset imm => Sys2Proof.Machine.execLdIndW dst src offset imm s
  | .ldIndH dst src offset imm => Sys2Proof.Machine.execLdIndH dst src offset imm s
  | .ldIndB dst src offset imm => Sys2Proof.Machine.execLdIndB dst src offset imm s
  | .ldIndDw dst src offset imm => Sys2Proof.Machine.execLdIndDw dst src offset imm s

end Sys2Proof.Machine
end

