-- ==== Sys2Proof/Machine/Fetch.lean ====
section
/-! DEFINITION. Fetching and decoding the instruction at `pc` (`10_state.md` R31), and placing an
instruction there. -/

namespace Sys2Proof.Machine

open Sys2Proof

/-- Steps 1 to 3 of R31: the instruction at `pc`, or the fault that reaching it raises. -/
def fetch (s : State) : Except FaultInfo Instr :=
  match s.prog[s.pc]? with
  | none => .error (.pcOutOfRange s.pc)
  | some w0 =>
    match decode s.cfg.endian s.cfg.localCallField w0 s.prog[s.pc + 1]? with
    | .error reason => .error (.illegalInstruction s.pc reason)
    | .ok i => .ok i

/-- A slot of zeros. -/
def zeroSlot : Slot := ⟨0, 0, 0, 0, 0, 0, 0, 0⟩

/-- A program with the slots `ws` from index `k` on, zero slots before them where it is shorter. -/
def placeSlots (prog : List Slot) (k : Nat) (ws : List Slot) : List Slot :=
  prog.take k ++ List.replicate (k - prog.length) zeroSlot ++ ws ++ prog.drop (k + ws.length)

/-- `s` with the slots `ws` where the next step fetches, and able to step. -/
def withSlots (s : State) (ws : List Slot) : State :=
  { s with prog := placeSlots s.prog s.pc ws, status := .running }

end Sys2Proof.Machine
end

