-- ==== Sys2Proof/Machine/Step.lean ====
section
/-! DEFINITION. One step of the machine (`10_state.md` R31), and the state with a given instruction
where the next step fetches. -/

namespace Sys2Proof.Machine

open Sys2Proof

/-- R31, steps 1 to 6, on a running machine: fetch and decode, or raise; then the instruction's rule. -/
def stepRunning (s : State) : Host.Outcome State Fault Refusal :=
  match fetch s with
  | .error f => raise s f
  | .ok i => exec i s

/-- One step. Other agents act before it (`20_memory.md` R62); a machine that is not running has no step
(R31, R37). -/
def step (s : State) : Host.Outcome State Fault Refusal :=
  match s.status with
  | .running => stepRunning (agentTurn s)
  | _ => .fault .noStep

/-- `s` with the instruction of the canonical words in `w` (`30_encoding.md` R84) in the program's two
slots from `pc` on, laid out in the platform's byte order, and a status that can step. Nothing else
changes. -/
def State.withFetchWord (s : State) (nbits w : Nat) : State :=
  withSlots s (tableSlots s.cfg.endian nbits w)

end Sys2Proof.Machine
end

