-- ==== Sys2Proof/Machine/Entry.lean ====
section
/-! DEFINITION. Program entry (`10_state.md` R39, `70_reset_and_hazards.md` R370) and loading a program
(R371, `60_exceptions.md` R341). -/

namespace Sys2Proof.Machine

open Sys2Proof

/-- The registers at entry (R29, R39): the platform's arguments in R1 to R5, its `frame_top` in R10, and
nothing in the others. -/
def entryRegs (c : Config) : RegFile :=
  { r0 := .unwritten, r1 := c.entryArgs.r1, r2 := c.entryArgs.r2, r3 := c.entryArgs.r3,
    r4 := c.entryArgs.r4, r5 := c.entryArgs.r5, r6 := .unwritten, r7 := .unwritten,
    r8 := .unwritten, r9 := .unwritten, r10 := c.frameTop }

/-- Data memory at entry: what the platform put into its regions, with every byte of the first stack
frame `unwritten` (R39). -/
def entryMemory (c : Config) (mem : Memory) : Memory :=
  Memory.forget mem (c.frameRegion c.frameTop).base.toNat c.stackSize.toNat

/-- The state at program entry, line for line the table of R39. `mem` is what the platform put into
memory, in canonical form. -/
def State.entry (c : Config) (prog : List Slot) (mem : Memory) : State :=
  { regs := entryRegs c, pc := 0, frames := [], status := .running, mem := entryMemory c mem,
    grantedRegions := c.regions, cfg := c, prog := prog, choices := [],
    agentWrites := [], turns := 0 }

/-- A byte string cut into 8-byte slots; none when its length is not a multiple of 8 (R80, R371). -/
def slotsOfBytes (bytes : List Byte) : Option (List Slot) :=
  match bytes with
  | [] => some []
  | b0 :: b1 :: b2 :: b3 :: b4 :: b5 :: b6 :: b7 :: rest =>
    match slotsOfBytes rest with
    | some ws => some (⟨b0, b1, b2, b3, b4, b5, b6, b7⟩ :: ws)
    | none => none
  | _ => none

/-- The refusals at load time, before a run begins (R341, last part). -/
inductive LoadRefusal where
  /-- The byte length is not a multiple of 8. -/
  | notWholeSlots
  /-- More than `cfg.MAX_INSNS` slots. -/
  | tooManySlots
deriving DecidableEq, Repr

/-- The program is within `cfg.MAX_INSNS` where the platform has such a limit (R371). -/
def withinLimit (limit : Option Nat) (n : Nat) : Bool :=
  match limit with
  | none => true
  | some m => decide (n ≤ m)

/-- Loading: the state at entry of a program given as bytes, on a platform whose regions hold `mem`, or
the refusal (R341, R370, R371). -/
def loadProgram (c : Config) (bytes : List Byte) (mem : Memory) : Except LoadRefusal State :=
  match slotsOfBytes bytes with
  | none => .error .notWholeSlots
  | some ws =>
    if withinLimit c.maxInsns ws.length then .ok (State.entry c ws mem) else .error .tooManySlots

end Sys2Proof.Machine
end

