-- ==== Sys2Proof/Safety.lean ====
section
/-! DEFINITION. The terms claims use: a run without a fault, the value a program returns (`60_exceptions.md`
R340, `70_reset_and_hazards.md` R372), and the properties of a state that every step keeps. -/

namespace Sys2Proof.Machine

open Sys2Proof

/-- The state after `n` steps; a machine that has no step stays where it is (R37). -/
def runFor (n : Nat) (s : State) : State :=
  match n with
  | 0 => s
  | n + 1 =>
    match step s with
    | .next t => runFor n t
    | _ => s

/-- The program ended and did not succeed (R340). -/
def Status.isFaulted (st : Status) : Bool :=
  match st with
  | .faulted _ => true
  | _ => false

/-- No fault in the first `n` steps. -/
def SafeFor (n : Nat) (s : State) : Prop := ∀ k, k ≤ n → (runFor k s).status.isFaulted = false

/-- The program returns `v`: it reaches `Exited(v)` (R340, R372). Other agents need not have stopped acting
by then (R350, log 9). -/
def Returns (s : State) (v : Word) : Prop := ∃ n, (runFor n s).status = .exited v

/-- Data memory is in canonical form (log 6). -/
def MemoryCanonical (s : State) : Prop := Memory.wf s.mem = true

/-- The saved frame pointers of the callers, innermost first, are those of the depths below `k`
(`45_call_exit.md` R249, R253). -/
def framesAt (c : Config) (frames : List Frame) : Prop :=
  match frames with
  | [] => True
  | f :: rest => f.fp = c.framePtr rest.length ∧ framesAt c rest

/-- R10 is the frame pointer of the running function's depth, every saved frame pointer is its own
depth's, and the depth is within `cfg.MAX_CALL_DEPTH` (`10_state.md` R36, `45_call_exit.md` R253). -/
def CallStackLinked (s : State) : Prop :=
  s.regs.r10 = s.cfg.framePtr s.frames.length ∧ framesAt s.cfg s.frames
    ∧ s.frames.length ≤ s.cfg.maxCallDepth

/-! ### What an instruction reads and writes (`10_state.md` R24) -/

/-- The families of `spec/opcode_table.json`, as `10_state.md` R24 groups them. -/
inductive Family where
  | arithmetic | jump | helperCall | localCall | exit | load | store | atomic | imm64 | legacy
deriving DecidableEq, Repr

/-- The family of an instruction. -/
def familyOf : Instr → Family
  | .add32K _ _ | .add32X _ _ | .sub32K _ _ | .sub32X _ _ | .mul32K _ _ | .mul32X _ _
  | .div32K _ _ | .div32X _ _ | .or32K _ _ | .or32X _ _ | .and32K _ _ | .and32X _ _ | .lsh32K _ _
  | .lsh32X _ _ | .rsh32K _ _ | .rsh32X _ _ | .mod32K _ _ | .mod32X _ _ | .xor32K _ _
  | .xor32X _ _ | .mov32K _ _ | .mov32X _ _ | .arsh32K _ _ | .arsh32X _ _ | .add64K _ _
  | .add64X _ _ | .sub64K _ _ | .sub64X _ _ | .mul64K _ _ | .mul64X _ _ | .div64K _ _
  | .div64X _ _ | .or64K _ _ | .or64X _ _ | .and64K _ _ | .and64X _ _ | .lsh64K _ _ | .lsh64X _ _
  | .rsh64K _ _ | .rsh64X _ _ | .mod64K _ _ | .mod64X _ _ | .xor64K _ _ | .xor64X _ _
  | .mov64K _ _ | .mov64X _ _ | .arsh64K _ _ | .arsh64X _ _ => .arithmetic
  | .neg32 _ | .neg64 _ | .le16 _ | .le32 _ | .le64 _ | .be16 _ | .be32 _ | .be64 _ => .arithmetic
  | .ja _ => .jump
  | .jeqK _ _ _ | .jeqX _ _ _ | .jgtK _ _ _ | .jgtX _ _ _ | .jgeK _ _ _ | .jgeX _ _ _
  | .jsetK _ _ _ | .jsetX _ _ _ | .jneK _ _ _ | .jneX _ _ _ | .jsgtK _ _ _ | .jsgtX _ _ _
  | .jsgeK _ _ _ | .jsgeX _ _ _ | .jltK _ _ _ | .jltX _ _ _ | .jleK _ _ _ | .jleX _ _ _
  | .jsltK _ _ _ | .jsltX _ _ _ | .jsleK _ _ _ | .jsleX _ _ _ | .jeq32K _ _ _ | .jeq32X _ _ _
  | .jgt32K _ _ _ | .jgt32X _ _ _ | .jge32K _ _ _ | .jge32X _ _ _ | .jset32K _ _ _
  | .jset32X _ _ _ | .jne32K _ _ _ | .jne32X _ _ _ | .jsgt32K _ _ _ | .jsgt32X _ _ _
  | .jsge32K _ _ _ | .jsge32X _ _ _ | .jlt32K _ _ _ | .jlt32X _ _ _ | .jle32K _ _ _
  | .jle32X _ _ _ | .jslt32K _ _ _ | .jslt32X _ _ _ | .jsle32K _ _ _ | .jsle32X _ _ _ => .jump
  | .callHelper _ | .callHelperSpecific _ => .helperCall
  | .callLocal _ _ => .localCall
  | .exit => .exit
  | .ldxw _ _ _ | .ldxh _ _ _ | .ldxb _ _ _ | .ldxdw _ _ _ => .load
  | .stw _ _ _ | .sth _ _ _ | .stb _ _ _ | .stdw _ _ _ | .stxw _ _ _ | .stxh _ _ _ | .stxb _ _ _
  | .stxdw _ _ _ => .store
  | .atomicAdd32 _ _ _ | .atomicFetchAdd32 _ _ _ | .atomicOr32 _ _ _ | .atomicFetchOr32 _ _ _
  | .atomicAnd32 _ _ _ | .atomicFetchAnd32 _ _ _ | .atomicXor32 _ _ _ | .atomicFetchXor32 _ _ _
  | .atomicXchg32 _ _ _ | .atomicCmpxchg32 _ _ _ | .atomicAdd64 _ _ _ | .atomicFetchAdd64 _ _ _
  | .atomicOr64 _ _ _ | .atomicFetchOr64 _ _ _ | .atomicAnd64 _ _ _ | .atomicFetchAnd64 _ _ _
  | .atomicXor64 _ _ _ | .atomicFetchXor64 _ _ _ | .atomicXchg64 _ _ _ | .atomicCmpxchg64 _ _ _ => .atomic
  | .lddw _ _ _ | .ldMapValueFd _ _ _ | .ldMapValueIdx _ _ _ => .imm64
  | .ldMapFd _ _ | .ldVarAddr _ _ | .ldCodeAddr _ _ | .ldMapIdx _ _ => .imm64
  | .ldAbsW _ _ _ _ | .ldAbsH _ _ _ _ | .ldAbsB _ _ _ _ | .ldAbsDw _ _ _ _ | .ldIndW _ _ _ _
  | .ldIndH _ _ _ _ | .ldIndB _ _ _ _ | .ldIndDw _ _ _ _ => .legacy

/-- The registers an instruction's rule reads before anything else, in the order it reads them (R24,
`60_exceptions.md` R344). A helper call reads its arguments after the table is consulted, and EXIT
reads R0 only when it ends the program: those two are not listed. -/
def readsOf : Instr → List Reg
  | .add32K dst _ | .sub32K dst _ | .mul32K dst _ | .div32K dst _ | .or32K dst _ | .and32K dst _
  | .lsh32K dst _ | .rsh32K dst _ | .mod32K dst _ | .xor32K dst _ | .arsh32K dst _ | .add64K dst _
  | .sub64K dst _ | .mul64K dst _ | .div64K dst _ | .or64K dst _ | .and64K dst _ | .lsh64K dst _
  | .rsh64K dst _ | .mod64K dst _ | .xor64K dst _ | .arsh64K dst _ => [dst]
  | .neg32 dst | .neg64 dst | .le16 dst | .le32 dst | .le64 dst | .be16 dst | .be32 dst
  | .be64 dst => [dst]
  | .jeqK dst _ _ | .jgtK dst _ _ | .jgeK dst _ _ | .jsetK dst _ _ | .jneK dst _ _
  | .jsgtK dst _ _ | .jsgeK dst _ _ | .jltK dst _ _ | .jleK dst _ _ | .jsltK dst _ _
  | .jsleK dst _ _ | .jeq32K dst _ _ | .jgt32K dst _ _ | .jge32K dst _ _ | .jset32K dst _ _
  | .jne32K dst _ _ | .jsgt32K dst _ _ | .jsge32K dst _ _ | .jlt32K dst _ _ | .jle32K dst _ _
  | .jslt32K dst _ _ | .jsle32K dst _ _ | .stw dst _ _ | .sth dst _ _ | .stb dst _ _
  | .stdw dst _ _ => [dst]
  | .add32X dst src | .sub32X dst src | .mul32X dst src | .div32X dst src | .or32X dst src
  | .and32X dst src | .lsh32X dst src | .rsh32X dst src | .mod32X dst src | .xor32X dst src
  | .arsh32X dst src | .add64X dst src | .sub64X dst src | .mul64X dst src | .div64X dst src
  | .or64X dst src | .and64X dst src | .lsh64X dst src | .rsh64X dst src | .mod64X dst src
  | .xor64X dst src | .arsh64X dst src => [dst, src]
  | .jeqX dst src _ | .jgtX dst src _ | .jgeX dst src _ | .jsetX dst src _ | .jneX dst src _
  | .jsgtX dst src _ | .jsgeX dst src _ | .jltX dst src _ | .jleX dst src _ | .jsltX dst src _
  | .jsleX dst src _ | .jeq32X dst src _ | .jgt32X dst src _ | .jge32X dst src _
  | .jset32X dst src _ | .jne32X dst src _ | .jsgt32X dst src _ | .jsge32X dst src _
  | .jlt32X dst src _ | .jle32X dst src _ | .jslt32X dst src _ | .jsle32X dst src _
  | .stxw dst src _ | .stxh dst src _ | .stxb dst src _ | .stxdw dst src _
  | .atomicAdd32 dst src _ | .atomicOr32 dst src _ | .atomicAnd32 dst src _
  | .atomicXor32 dst src _ | .atomicAdd64 dst src _ | .atomicOr64 dst src _
  | .atomicAnd64 dst src _ | .atomicXor64 dst src _ | .atomicFetchAdd32 dst src _
  | .atomicFetchOr32 dst src _ | .atomicFetchAnd32 dst src _ | .atomicFetchXor32 dst src _
  | .atomicXchg32 dst src _ | .atomicFetchAdd64 dst src _ | .atomicFetchOr64 dst src _
  | .atomicFetchAnd64 dst src _ | .atomicFetchXor64 dst src _ | .atomicXchg64 dst src _ => [dst, src]
  | .atomicCmpxchg32 dst src _ | .atomicCmpxchg64 dst src _ => [dst, src, .r0]
  | .mov32X _ src | .mov64X _ src => [src]
  | .ldxw _ src _ | .ldxh _ src _ | .ldxb _ src _ | .ldxdw _ src _ => [src]
  | .mov32K _ _ | .mov64K _ _ | .callLocal _ _ | .ldMapFd _ _ | .ldVarAddr _ _ | .ldCodeAddr _ _
  | .ldMapIdx _ _ => []
  | .ja _ | .callHelper _ | .callHelperSpecific _ => []
  | .exit => []
  | .lddw _ _ _ | .ldMapValueFd _ _ _ | .ldMapValueIdx _ _ _ => []
  | .ldAbsW _ _ _ _ | .ldAbsH _ _ _ _ | .ldAbsB _ _ _ _ | .ldAbsDw _ _ _ _ | .ldIndW _ _ _ _
  | .ldIndH _ _ _ _ | .ldIndB _ _ _ _ | .ldIndDw _ _ _ _ => []

/-- The registers an instruction may change (R24, R28, R36). What a legacy packet access instruction
changes is the platform's (R325): every register. -/
def writesOf : Instr → List Reg
  | .add32K dst _ | .add32X dst _ | .sub32K dst _ | .sub32X dst _ | .mul32K dst _ | .mul32X dst _
  | .div32K dst _ | .div32X dst _ | .or32K dst _ | .or32X dst _ | .and32K dst _ | .and32X dst _
  | .lsh32K dst _ | .lsh32X dst _ | .rsh32K dst _ | .rsh32X dst _ | .mod32K dst _ | .mod32X dst _
  | .xor32K dst _ | .xor32X dst _ | .mov32K dst _ | .mov32X dst _ | .arsh32K dst _
  | .arsh32X dst _ | .add64K dst _ | .add64X dst _ | .sub64K dst _ | .sub64X dst _ | .mul64K dst _
  | .mul64X dst _ | .div64K dst _ | .div64X dst _ | .or64K dst _ | .or64X dst _ | .and64K dst _
  | .and64X dst _ | .lsh64K dst _ | .lsh64X dst _ | .rsh64K dst _ | .rsh64X dst _ | .mod64K dst _
  | .mod64X dst _ | .xor64K dst _ | .xor64X dst _ | .mov64K dst _ | .mov64X dst _ | .arsh64K dst _
  | .arsh64X dst _ | .ldMapFd dst _ | .ldVarAddr dst _ | .ldCodeAddr dst _ | .ldMapIdx dst _ => [dst]
  | .neg32 dst | .neg64 dst | .le16 dst | .le32 dst | .le64 dst | .be16 dst | .be32 dst
  | .be64 dst => [dst]
  | .ldxw dst _ _ | .ldxh dst _ _ | .ldxb dst _ _ | .ldxdw dst _ _ | .lddw dst _ _
  | .ldMapValueFd dst _ _ | .ldMapValueIdx dst _ _ => [dst]
  | .ja _ => []
  | .jeqK _ _ _ | .jeqX _ _ _ | .jgtK _ _ _ | .jgtX _ _ _ | .jgeK _ _ _ | .jgeX _ _ _
  | .jsetK _ _ _ | .jsetX _ _ _ | .jneK _ _ _ | .jneX _ _ _ | .jsgtK _ _ _ | .jsgtX _ _ _
  | .jsgeK _ _ _ | .jsgeX _ _ _ | .jltK _ _ _ | .jltX _ _ _ | .jleK _ _ _ | .jleX _ _ _
  | .jsltK _ _ _ | .jsltX _ _ _ | .jsleK _ _ _ | .jsleX _ _ _ | .jeq32K _ _ _ | .jeq32X _ _ _
  | .jgt32K _ _ _ | .jgt32X _ _ _ | .jge32K _ _ _ | .jge32X _ _ _ | .jset32K _ _ _
  | .jset32X _ _ _ | .jne32K _ _ _ | .jne32X _ _ _ | .jsgt32K _ _ _ | .jsgt32X _ _ _
  | .jsge32K _ _ _ | .jsge32X _ _ _ | .jlt32K _ _ _ | .jlt32X _ _ _ | .jle32K _ _ _
  | .jle32X _ _ _ | .jslt32K _ _ _ | .jslt32X _ _ _ | .jsle32K _ _ _ | .jsle32X _ _ _ | .stw _ _ _
  | .sth _ _ _ | .stb _ _ _ | .stdw _ _ _ | .stxw _ _ _ | .stxh _ _ _ | .stxb _ _ _ | .stxdw _ _ _
  | .atomicAdd32 _ _ _ | .atomicOr32 _ _ _ | .atomicAnd32 _ _ _ | .atomicXor32 _ _ _
  | .atomicAdd64 _ _ _ | .atomicOr64 _ _ _ | .atomicAnd64 _ _ _ | .atomicXor64 _ _ _ => []
  | .atomicFetchAdd32 _ src _ | .atomicFetchOr32 _ src _ | .atomicFetchAnd32 _ src _
  | .atomicFetchXor32 _ src _ | .atomicXchg32 _ src _ | .atomicFetchAdd64 _ src _
  | .atomicFetchOr64 _ src _ | .atomicFetchAnd64 _ src _ | .atomicFetchXor64 _ src _
  | .atomicXchg64 _ src _ => [src]
  | .atomicCmpxchg32 _ _ _ | .atomicCmpxchg64 _ _ _ => [.r0]
  | .callHelper _ | .callHelperSpecific _ => [.r0, .r1, .r2, .r3, .r4, .r5]
  | .callLocal _ _ => [.r0, .r6, .r7, .r8, .r9, .r10]
  | .exit => [.r1, .r2, .r3, .r4, .r5, .r6, .r7, .r8, .r9, .r10]
  | .ldAbsW _ _ _ _ | .ldAbsH _ _ _ _ | .ldAbsB _ _ _ _ | .ldAbsDw _ _ _ _ | .ldIndW _ _ _ _
  | .ldIndH _ _ _ _ | .ldIndB _ _ _ _ | .ldIndDw _ _ _ _ => [.r0, .r1, .r2, .r3, .r4, .r5, .r6, .r7, .r8, .r9, .r10]

/-- The base register, the offset and the number of bytes of a store or an atomic operation
(`46_load_store.md` R260, `47_atomic.md` R280). -/
def storeOperand : Instr → Option (Reg × BitVec 16 × Nat)
  | .stb dst offset _ => some (dst, offset, 1)
  | .stxb dst _ offset => some (dst, offset, 1)
  | .sth dst offset _ => some (dst, offset, 2)
  | .stxh dst _ offset => some (dst, offset, 2)
  | .stw dst offset _ => some (dst, offset, 4)
  | .stxw dst _ offset | .atomicAdd32 dst _ offset | .atomicFetchAdd32 dst _ offset
  | .atomicOr32 dst _ offset | .atomicFetchOr32 dst _ offset | .atomicAnd32 dst _ offset
  | .atomicFetchAnd32 dst _ offset | .atomicXor32 dst _ offset | .atomicFetchXor32 dst _ offset
  | .atomicXchg32 dst _ offset | .atomicCmpxchg32 dst _ offset => some (dst, offset, 4)
  | .stdw dst offset _ => some (dst, offset, 8)
  | .stxdw dst _ offset | .atomicAdd64 dst _ offset | .atomicFetchAdd64 dst _ offset
  | .atomicOr64 dst _ offset | .atomicFetchOr64 dst _ offset | .atomicAnd64 dst _ offset
  | .atomicFetchAnd64 dst _ offset | .atomicXor64 dst _ offset | .atomicFetchXor64 dst _ offset
  | .atomicXchg64 dst _ offset | .atomicCmpxchg64 dst _ offset => some (dst, offset, 8)
  | .add32K _ _ | .add32X _ _ | .sub32K _ _ | .sub32X _ _ | .mul32K _ _ | .mul32X _ _
  | .div32K _ _ | .div32X _ _ | .or32K _ _ | .or32X _ _ | .and32K _ _ | .and32X _ _ | .lsh32K _ _
  | .lsh32X _ _ | .rsh32K _ _ | .rsh32X _ _ | .mod32K _ _ | .mod32X _ _ | .xor32K _ _
  | .xor32X _ _ | .mov32K _ _ | .mov32X _ _ | .arsh32K _ _ | .arsh32X _ _ | .add64K _ _
  | .add64X _ _ | .sub64K _ _ | .sub64X _ _ | .mul64K _ _ | .mul64X _ _ | .div64K _ _
  | .div64X _ _ | .or64K _ _ | .or64X _ _ | .and64K _ _ | .and64X _ _ | .lsh64K _ _ | .lsh64X _ _
  | .rsh64K _ _ | .rsh64X _ _ | .mod64K _ _ | .mod64X _ _ | .xor64K _ _ | .xor64X _ _
  | .mov64K _ _ | .mov64X _ _ | .arsh64K _ _ | .arsh64X _ _ | .callLocal _ _ | .ldMapFd _ _
  | .ldVarAddr _ _ | .ldCodeAddr _ _ | .ldMapIdx _ _ => none
  | .neg32 _ | .neg64 _ | .le16 _ | .le32 _ | .le64 _ | .be16 _ | .be32 _ | .be64 _ | .ja _
  | .callHelper _ | .callHelperSpecific _ => none
  | .jeqK _ _ _ | .jeqX _ _ _ | .jgtK _ _ _ | .jgtX _ _ _ | .jgeK _ _ _ | .jgeX _ _ _
  | .jsetK _ _ _ | .jsetX _ _ _ | .jneK _ _ _ | .jneX _ _ _ | .jsgtK _ _ _ | .jsgtX _ _ _
  | .jsgeK _ _ _ | .jsgeX _ _ _ | .jltK _ _ _ | .jltX _ _ _ | .jleK _ _ _ | .jleX _ _ _
  | .jsltK _ _ _ | .jsltX _ _ _ | .jsleK _ _ _ | .jsleX _ _ _ | .jeq32K _ _ _ | .jeq32X _ _ _
  | .jgt32K _ _ _ | .jgt32X _ _ _ | .jge32K _ _ _ | .jge32X _ _ _ | .jset32K _ _ _
  | .jset32X _ _ _ | .jne32K _ _ _ | .jne32X _ _ _ | .jsgt32K _ _ _ | .jsgt32X _ _ _
  | .jsge32K _ _ _ | .jsge32X _ _ _ | .jlt32K _ _ _ | .jlt32X _ _ _ | .jle32K _ _ _
  | .jle32X _ _ _ | .jslt32K _ _ _ | .jslt32X _ _ _ | .jsle32K _ _ _ | .jsle32X _ _ _
  | .ldxw _ _ _ | .ldxh _ _ _ | .ldxb _ _ _ | .ldxdw _ _ _ | .lddw _ _ _ | .ldMapValueFd _ _ _
  | .ldMapValueIdx _ _ _ => none
  | .exit => none
  | .ldAbsW _ _ _ _ | .ldAbsH _ _ _ _ | .ldAbsB _ _ _ _ | .ldAbsDw _ _ _ _ | .ldIndW _ _ _ _
  | .ldIndH _ _ _ _ | .ldIndB _ _ _ _ | .ldIndDw _ _ _ _ => none

/-- The address a store or an atomic operation accesses, computed as its meaning computes it, and the
number of bytes; none where it accesses none. -/
def storeTarget (i : Instr) (s : State) : Option (Word × Nat) :=
  match storeOperand i with
  | none => none
  | some (base, offset, n) =>
    match s.regs.get base with
    | .unwritten => none
    | .value v => some (effectiveAddress v offset, n)

/-- The opcode bytes that begin an instruction, class by class (`30_encoding.md` R102). -/
def definedOpcodes : List Nat :=
  [0x18, 0x20, 0x28, 0x30, 0x38, 0x40, 0x48, 0x50, 0x58]
  ++ [0x61, 0x69, 0x71, 0x79]
  ++ [0x62, 0x6a, 0x72, 0x7a]
  ++ [0x63, 0x6b, 0x73, 0x7b, 0xc3, 0xdb]
  ++ [0x04, 0x0c, 0x14, 0x1c, 0x24, 0x2c, 0x34, 0x3c, 0x44, 0x4c, 0x54, 0x5c, 0x64, 0x6c, 0x74,
   0x7c, 0x84, 0x94, 0x9c, 0xa4, 0xac, 0xb4, 0xbc, 0xc4, 0xcc, 0xd4, 0xdc]
  ++ [0x05, 0x15, 0x1d, 0x25, 0x2d, 0x35, 0x3d, 0x45, 0x4d, 0x55, 0x5d, 0x65, 0x6d, 0x75, 0x7d,
   0x85, 0x95, 0xa5, 0xad, 0xb5, 0xbd, 0xc5, 0xcd, 0xd5, 0xdd]
  ++ [0x16, 0x1e, 0x26, 0x2e, 0x36, 0x3e, 0x46, 0x4e, 0x56, 0x5e, 0x66, 0x6e, 0x76, 0x7e, 0xa6,
   0xae, 0xb6, 0xbe, 0xc6, 0xce, 0xd6, 0xde]
  ++ [0x07, 0x0f, 0x17, 0x1f, 0x27, 0x2f, 0x37, 0x3f, 0x47, 0x4f, 0x57, 0x5f, 0x67, 0x6f, 0x77,
   0x7f, 0x87, 0x97, 0x9f, 0xa7, 0xaf, 0xb7, 0xbf, 0xc7, 0xcf]

end Sys2Proof.Machine
end

