-- ==== Sys2Proof/Certificates/Slice0/Obligations.lean ====
section
/-! DEFINITION. The statements for the provers. A clause that rests on a choice of the model and not on
the spec says so and names the log entry. -/

section

open Sys2Proof Sys2Proof.Machine

/-- For every byte order, every setting of cfg.LOCAL_CALL_FIELD and every well-formed instruction
with every operand value its encoding admits, decoding its slots, whatever slots follow them, gives
that instruction. That decode answers the eight legacy packet instructions on every platform, where
step 7 of R100 refuses them without cfg.LEGACY_PACKET, is the model's choice (log 16, DEDUCED):
there the refusal stands in their meanings, and the step is the same. [R81, R83, R84, R87, R98, R99,
R100, R101] -/
def Obligations.DecodeInvertsEncode : Prop :=
  ∀ (e : Endian) (field : LocalCallField) (i : Instr) (rest : List Slot),
    i.wellFormed field = true → decodeSlots e field (encode e i ++ rest) = .ok i

/-- For every slot and following slot, in either byte order: when the decoder answers an
instruction, that instruction is well formed (it writes no R10, its map-value offset is not
negative, an unused call offset is zero) and its encoding is those very slots, so no bit of a word
that decodes is dropped and every word has one meaning. (That legacy words decode on every platform
is the model's choice, log 16.) [R22, R86, R87, R100, R101, R104, R313, R317] -/
def Obligations.EncodeInvertsDecode : Prop :=
  ∀ (e : Endian) (field : LocalCallField) (w0 : Slot) (w1 : Option Slot) (i : Instr),
    decode e field w0 w1 = .ok i →
      i.wellFormed field = true ∧ encode e i = (w0 :: w1.toList).take i.size

/-- There are 122 defined first-slot opcode bytes, the ones R102 lists class by class; a slot whose
opcode byte is not one of them (0x00 among the rest) decodes to ReservedOpcode whatever its other
fields, and a slot whose opcode byte is one of them never decodes to ReservedOpcode. (The eight
legacy opcode bytes among them are refused, with LegacyPacketUnsupported, by their meanings, log
16.) [R100, R102, R103, R109] -/
def Obligations.ReservedOpcodesAreRefused : Prop :=
  definedOpcodes.length = 122 ∧ 0 ∉ definedOpcodes ∧
    ∀ (e : Endian) (field : LocalCallField) (w0 : Slot) (w1 : Option Slot),
      ((cut e w0).opcode.toNat ∉ definedOpcodes →
        decode e field w0 w1 = .error .reservedOpcode) ∧
      ((cut e w0).opcode.toNat ∈ definedOpcodes →
        decode e field w0 w1 ≠ .error .reservedOpcode)

/-- The bytes 07 01 00 00 44 33 22 11 in little-endian BPF and 07 10 00 00 11 22 33 44 in big-endian
BPF both have opcode 0x07, dst_reg 1, src_reg 0, offset 0, imm 0x11223344 and the canonical word
0x1122334400000107, and both decode to ADD64_K of R1 and 0x11223344. [R85] -/
def Obligations.WorkedEncodingExample : Prop :=
  let little : Slot := ⟨0x07, 0x01, 0x00, 0x00, 0x44, 0x33, 0x22, 0x11⟩
  let big : Slot := ⟨0x07, 0x10, 0x00, 0x00, 0x11, 0x22, 0x33, 0x44⟩
  cut .little little = ⟨0x07, 1, 0, 0, 0x11223344⟩ ∧
    cut .big big = ⟨0x07, 1, 0, 0, 0x11223344⟩ ∧
    (cut .little little).word = 0x1122334400000107 ∧
    (cut .big big).word = 0x1122334400000107 ∧
    ∀ (field : LocalCallField) (next : Option Slot),
      decode .little field little next = .ok (.add64K .r1 0x11223344) ∧
        decode .big field big next = .ok (.add64K .r1 0x11223344)

/-- One word each of the arithmetic, byte swap, jump, call, exit, load, atomic and 64-bit immediate
families, with the little-endian bytes of the Example line of its rule (R122, R181, R192, R249,
R251, R261, R282, R311), decodes in little-endian BPF to the instruction of the example. A sanity
statement. [R98, R99, R122, R181, R192, R249, R251, R261, R282, R311] -/
def Obligations.SpecWordsDecode : Prop :=
  let d (w : Slot) : Except DecodeReason Instr := decode .little .offset w none
  d ⟨0x0c, 0x21, 0, 0, 0, 0, 0, 0⟩ = .ok (.add32X .r1 .r2) ∧
    d ⟨0xd4, 0x01, 0, 0, 0x10, 0, 0, 0⟩ = .ok (.le16 .r1) ∧
    d ⟨0x15, 0x01, 0x03, 0, 0xff, 0xff, 0xff, 0xff⟩ = .ok (.jeqK .r1 3 (-1)) ∧
    d ⟨0x85, 0x10, 0x03, 0, 0, 0, 0, 0⟩ = .ok (.callLocal 3 0) ∧
    d ⟨0x95, 0, 0, 0, 0, 0, 0, 0⟩ = .ok .exit ∧
    d ⟨0x61, 0xa1, 0xf8, 0xff, 0, 0, 0, 0⟩ = .ok (.ldxw .r1 .r10 (-8)) ∧
    d ⟨0xc3, 0x2a, 0xf8, 0xff, 0x01, 0, 0, 0⟩ = .ok (.atomicFetchAdd32 .r10 .r2 (-8)) ∧
    decode .little .offset ⟨0x18, 0x01, 0, 0, 0x88, 0x77, 0x66, 0x55⟩
      (some ⟨0, 0, 0, 0, 0x44, 0x33, 0x22, 0x11⟩) = .ok (.lddw .r1 0x55667788 0x11223344)

/-- For either byte order, cutting the bytes of packed fields gives the fields back, packing the
fields cut from a slot gives the slot back, the fields of a canonical word are the fields it was
made from, and in little-endian BPF the canonical word is the eight bytes read as one little-endian
integer. [R81, R82, R83, R84] -/
def Obligations.CutAndPackAreInverse : Prop :=
  (∀ (e : Endian) (f : Fields), cut e (pack e f) = f) ∧
    (∀ (e : Endian) (w : Slot), pack e (cut e w) = w) ∧
    (∀ f : Fields, Fields.ofWord f.word = f) ∧
    (∀ w : Slot, (cut .little w).word =
      w.b7 ++ w.b6 ++ w.b5 ++ w.b4 ++ w.b3 ++ w.b2 ++ w.b1 ++ w.b0)

/-- On a running machine, when the slot at pc and the one after it decode to an instruction, step is
exec of that instruction at the state in which other agents have taken their turn. That state
differs only in data memory, in the list of the writes they are still known to make, which has lost
its first entry, and in the count of steps begun; where the machine has no shared region its data
memory is the same too. The step itself adds nothing else: every meaning moves pc. (The turn of
other agents and the last two fields are the model's form of R62: DESIGN CHOICE, log 9.) [R31, R62,
R100] -/
def Obligations.StepRunsTheDecodedInstruction : Prop :=
  ∀ (s : State) (w0 : Slot) (i : Instr), s.status = .running → s.prog[s.pc]? = some w0 →
    decode s.cfg.endian s.cfg.localCallField w0 s.prog[s.pc + 1]? = .ok i →
      step s = exec i (agentTurn s) ∧
        agentTurn s =
          { s with
            mem := (agentTurn s).mem, agentWrites := s.agentWrites.tail, turns := s.turns + 1 } ∧
        ((∀ r ∈ s.regions, r.shared = false) →
          agentTurn s = { s with agentWrites := s.agentWrites.tail, turns := s.turns + 1 })

/-- On a running machine, a pc that is not the index of a slot raises PcOutOfRange(pc), and a slot
that does not decode raises IllegalInstruction(pc, reason). The next state is the state after other
agents' turn with the status replaced: bytes of shared regions may have changed, and nothing else of
the spec's state has. (That turn before the step is the model's form of R62: DESIGN CHOICE, log 9.)
When the status is Exited or Faulted, step answers no next state. (That it then answers the host
fault noStep is the model's choice, log 5.) [R31, R32, R37, R62, R341, R344, R346] -/
def Obligations.StepFaultsAtFetchAndStopsAtTheEnd : Prop :=
  ∀ s : State,
    (s.status = .running → s.prog.length ≤ s.pc →
      step s = .next { agentTurn s with status := .faulted (.pcOutOfRange s.pc) }) ∧
    (∀ (w0 : Slot) (reason : DecodeReason), s.status = .running → s.prog[s.pc]? = some w0 →
      decode s.cfg.endian s.cfg.localCallField w0 s.prog[s.pc + 1]? = .error reason →
      step s = .next { agentTurn s with status := .faulted (.illegalInstruction s.pc reason) }) ∧
    (s.status ≠ .running → step s = .fault .noStep)

/-- What other agents do before a step leaves registers, pc, call stack, status, regions,
configuration and program as they are, and leaves every byte that lies in no shared region as it
was. Every byte of a shared region can come to hold every value: for each there is a first entry of
the list of their writes after which it does. (The list, the free value that takes its place where
it is empty, so that interference need never end, and the count of turns are the model's form of R62
and R350: DESIGN CHOICE, log 9.) [R62, R70, R343, R350] -/
def Obligations.OtherAgentsReachOnlySharedBytes : Prop :=
  ∀ s : State,
    agentTurn s =
      { s with
        mem := (agentTurn s).mem, agentWrites := s.agentWrites.tail, turns := s.turns + 1 } ∧
    (∀ x : Nat,
      (∀ r ∈ s.regions, r.shared = true →
        ¬(r.base.toNat ≤ x ∧ x < r.base.toNat + r.size.toNat)) →
      Memory.read (agentTurn s).mem x = Memory.read s.mem x) ∧
    ∀ (x : Word) (b : Byte),
      (∃ r ∈ s.regions, r.shared = true ∧ r.base.toNat ≤ x.toNat ∧
        x.toNat < r.base.toNat + r.size.toNat) →
      Memory.read (agentTurn { s with agentWrites := [[⟨x, b⟩]] }).mem x.toNat = some b

/-- For every state whose memory lists strictly rising addresses below 2^64, a step that answers a
next state leaves memory in that form. (The form itself is the model's, log 6.) [R40, R51, R58] -/
def Obligations.StepKeepsMemoryCanonical : Prop :=
  ∀ s t : State, MemoryCanonical s → step s = .next t → MemoryCanonical t

/-- For every state of a platform that does not supply the legacy instructions (log 8): if R10 is
cfg.frame_ptr of the number of active calls, every saved frame pointer is that of its own depth, and
the depth is at most cfg.MAX_CALL_DEPTH, then the same holds after every step. (The finite table
behind frame_ptr is the model's, log 13.) [R22, R25, R36, R249, R251, R253] -/
def Obligations.StepKeepsCallStackLinked : Prop :=
  ∀ s t : State, s.cfg.legacyPacket = none → CallStackLinked s → step s = .next t →
    CallStackLinked t

/-- The state at entry of any program on any platform has a linked call stack (R10 at
cfg.frame_ptr(0) = cfg.frame_top, no active call) and, where the platform's memory is canonical,
canonical memory; the reset state has both, and every byte of its memory is unwritten. The canonical
form is the model's choice (log 6), and so are the reset state, its platform and its empty memory
(logs 1, 2, 4 and 6); the entry state is R39's. [R36, R39, R40, R253] -/
def Obligations.EntryAndResetMeetTheInvariants : Prop :=
  (∀ (c : Config) (prog : List Slot) (mem : Memory),
    CallStackLinked (State.entry c prog mem) ∧
      (Memory.wf mem = true → MemoryCanonical (State.entry c prog mem))) ∧
    CallStackLinked State.reset ∧ MemoryCanonical State.reset ∧
    ∀ a : Nat, Memory.read State.reset.mem a = none

/-- For every state, a step that answers a next state leaves the program and the configuration
record as they were: there is no self-modifying code. [R38, R50, R66] -/
def Obligations.StepKeepsConfigAndProgram : Prop :=
  ∀ s t : State, step s = .next t → t.cfg = s.cfg ∧ t.prog = s.prog

/-- For every state, when a step ends in a faulted status, the state after it is the state the step
began with (after other agents' turn, log 9) in everything but the status, and that state has no
further step (step answers the host fault noStep, log 5); the same holds of every instruction run at
a running state. [R12, R31, R37, R340, R345] -/
def Obligations.FaultsArePrecise : Prop :=
  (∀ (i : Instr) (s t : State) (f : FaultInfo), s.status = .running → exec i s = .next t →
      t.status = .faulted f → t = { s with status := .faulted f }) ∧
    (∀ (s t : State) (f : FaultInfo), step s = .next t → t.status = .faulted f →
      t = { agentTurn s with status := .faulted f } ∧ step t = .fault .noStep)

/-- For every running state of a platform that does not supply the legacy instructions (log 8): when
an instruction leaves the status Exited(v), it is EXIT, no call is active, and R0 holds v. [R37,
R251, R372] -/
def Obligations.OnlyTheOutermostExitEndsAProgram : Prop :=
  ∀ (i : Instr) (s t : State) (v : Word), s.cfg.legacyPacket = none → s.status = .running →
    exec i s = .next t → t.status = .exited v →
      i = .exit ∧ s.frames = [] ∧ s.regs.get .r0 = .value v

/-- For every instruction, state and next state, a register that is not in the instruction's write
list (dst for arithmetic, byte swap, loads and 64-bit immediates; src for fetching atomics and
exchange; R0 for compare and exchange; R0 to R5 for helper calls; R0, R6 to R9 and R10 for a BPF-
local call; R1 to R10 for EXIT; none for jumps, stores and plain atomics) reads as before. [R22,
R24, R25, R28] -/
def Obligations.InstructionsWriteOnlyTheirRegisters : Prop :=
  ∀ (i : Instr) (s t : State) (r : Reg), exec i s = .next t → r ∉ writesOf i →
    t.regs.get r = s.regs.get r

/-- For every instruction, state and next state: an arithmetic, byte swap, jump, EXIT, load or
64-bit immediate instruction leaves all of data memory unchanged; a store or atomic leaves every
byte unchanged outside its own 1, 2, 4 or 8 bytes at base + offset, computed as the meaning computes
it; and it leaves memory unchanged when its base register holds no value. What helper calls, BPF-
local calls and the legacy instructions do to memory is said by HelperCallsReturn and
PlatformEditsReachOneByte, LocalCallEntersCallee, and LegacyAccessTakesThePlatformsAnswer. [R54,
R55, R260, R280] -/
def Obligations.InstructionsWriteOnlyTheirMemory : Prop :=
  ∀ (i : Instr) (s t : State), exec i s = .next t →
    (familyOf i ∈ [Family.arithmetic, .jump, .exit, .load, .imm64] → t.mem = s.mem) ∧
    (∀ (ea : Word) (n : Nat), storeTarget i s = some (ea, n) →
      ∀ x : Nat, x < ea.toNat ∨ ea.toNat + n ≤ x → Memory.read t.mem x = Memory.read s.mem x) ∧
    (familyOf i ∈ [Family.store, .atomic] → storeTarget i s = none → t.mem = s.mem)

/-- For every instruction other than the legacy ones: unless it is a BPF-local call or EXIT it
leaves the call stack and R10 unchanged, and unless it is a helper call it leaves the platform's
regions unchanged. [R25, R36, R40, R249, R251] -/
def Obligations.OnlyCallsAndExitMoveTheCallStack : Prop :=
  ∀ (i : Instr) (s t : State), exec i s = .next t → familyOf i ≠ .legacy →
    (familyOf i ≠ .localCall → familyOf i ≠ .exit →
      t.frames = s.frames ∧ t.regs.r10 = s.regs.r10) ∧
    (familyOf i ≠ .helperCall → t.grantedRegions = s.grantedRegions)

/-- For every instruction that is no jump, BPF-local call, EXIT or legacy instruction, run at a
running state: when it does not fault, pc moves by the number of slots the instruction fills, two
for the 64-bit immediates and one otherwise. [R31, R32, R80, R310] -/
def Obligations.StraightLineInstructionsAdvancePc : Prop :=
  ∀ (i : Instr) (s t : State), exec i s = .next t → t.status = .running →
    familyOf i ∉ [Family.jump, .localCall, .exit, .legacy] → s.status = .running →
      t.pc = s.pc + (if familyOf i = .imm64 then 2 else 1)

/-- For every instruction but helper calls, EXIT and the legacy instructions, and every state: if
the registers the instruction reads, in the order it reads them (dst before src before R0), are
written up to one that is unwritten, the instruction raises UnwrittenRegister of that one and
changes nothing else. The list of registers read is empty for helper calls and EXIT, whose reads
depend on the platform and on the call stack, so this says nothing of them: HelperCallsFault and
LocalCallAndExitFaults do; the legacy instructions read what the platform says. [R8, R24, R27, R344]
-/
def Obligations.ReadingAnUnwrittenRegisterFaults : Prop :=
  ∀ (i : Instr) (s : State) (before after : List Reg) (r : Reg),
    readsOf i = before ++ r :: after → (∀ q ∈ before, s.regs.get q ≠ .unwritten) →
    s.regs.get r = .unwritten →
      exec i s = .next { s with status := .faulted (.unwrittenRegister r) }

/-- For two running states with the same configuration that agree on the registers an arithmetic or
byte swap instruction reads, and in which it does not fault, the register it writes holds the same
value after it. And every instruction but a helper call, the legacy ones among them, does the same
whatever the model's own fields hold that say what the environment will do (the choices among helper
outcomes, log 7; other agents' coming writes and the count of turns, log 9), and leaves those fields
as they are: its result is a function of the machine's state, the program and the configuration.
[R120, R150, R180, R375] -/
def Obligations.ArithmeticDependsOnItsOperandsOnly : Prop :=
  (∀ (i : Instr) (s1 s2 t1 t2 : State) (d : Reg), familyOf i = .arithmetic →
    s1.cfg = s2.cfg → (∀ r ∈ readsOf i, s1.regs.get r = s2.regs.get r) →
    exec i s1 = .next t1 → exec i s2 = .next t2 → t1.status = .running → t2.status = .running →
    d ∈ writesOf i → d ≠ .r10 → t1.regs.get d = t2.regs.get d) ∧
    ∀ (i : Instr) (s t : State) (choices : List Nat) (agentWrites : List (List AgentWrite))
      (turns : Nat), familyOf i ≠ .helperCall → exec i s = .next t →
      t.choices = s.choices ∧ t.agentWrites = s.agentWrites ∧ t.turns = s.turns ∧
      exec i { s with choices := choices, agentWrites := agentWrites, turns := turns } =
        .next { t with choices := choices, agentWrites := agentWrites, turns := turns }

/-- Reading the register just written gives the cell written, for R0 to R9; every other register
reads as before; R10 always holds a value. That a write to R10 leaves all registers as they are is
the model's choice (log 18, DESIGN CHOICE): by R22 an instruction that writes R10 does not decode.
[R20, R22, R23, R27] -/
def Obligations.RegisterWritesReachOneRegister : Prop :=
  ∀ (x : RegFile) (r : Reg) (c : RegCell),
    (r ≠ .r10 → (x.set r c).get r = c) ∧
    (∀ q : Reg, q ≠ r → (x.set r c).get q = x.get q) ∧
    x.set .r10 c = x ∧ x.get .r10 = .value x.r10

/-- For every state in which the operands hold values, each of the sixteen instructions answers the
next state in which dst holds the result (modulo 2^64; the immediate sign-extended; division
unsigned, 0 for division by zero; the old value for modulo by zero), pc has moved by one slot, and
everything else is unchanged: every other register, memory, call stack, status, regions. Two
operands may be one register; a dst of R10, which does not decode (R22), discards the result, which
is the model's choice (log 18, DESIGN CHOICE). [R150, R151, R155, R157, R158, R159, R161, R168,
R169, R170, R342, R93] -/
def Obligations.Arithmetic64Results : Prop :=
  ∀ (s : State) (dst : Reg) (a : Word), s.regs.get dst = .value a →
    let out (v : Word) : StepOutcome :=
      .next { s with regs := s.regs.set dst (.value v), pc := s.pc + 1 }
    (∀ imm : Half,
      let b : Word := imm.signExtend 64
      exec (.add64K dst imm) s = out (a + b) ∧
      exec (.sub64K dst imm) s = out (a - b) ∧
      exec (.mul64K dst imm) s = out (a * b) ∧
      exec (.div64K dst imm) s = out (if b = 0 then 0 else BitVec.ofNat 64 (a.toNat / b.toNat)) ∧
      exec (.or64K dst imm) s = out (a ||| b) ∧
      exec (.and64K dst imm) s = out (a &&& b) ∧
      exec (.xor64K dst imm) s = out (a ^^^ b) ∧
      exec (.mod64K dst imm) s = out (if b = 0 then a else BitVec.ofNat 64 (a.toNat % b.toNat))) ∧
    (∀ (src : Reg) (b : Word), s.regs.get src = .value b →
      exec (.add64X dst src) s = out (a + b) ∧
      exec (.sub64X dst src) s = out (a - b) ∧
      exec (.mul64X dst src) s = out (a * b) ∧
      exec (.div64X dst src) s = out (if b = 0 then 0 else BitVec.ofNat 64 (a.toNat / b.toNat)) ∧
      exec (.or64X dst src) s = out (a ||| b) ∧
      exec (.and64X dst src) s = out (a &&& b) ∧
      exec (.xor64X dst src) s = out (a ^^^ b) ∧
      exec (.mod64X dst src) s = out (if b = 0 then a else BitVec.ofNat 64 (a.toNat % b.toNat)))

/-- For every state in which the operands hold values, each of the sixteen instructions computes on
the low halves (or the raw immediate), zero-extends the 32-bit result into dst, moves pc by one slot
and changes nothing else; division by zero gives 0 and modulo by zero the zero-extended low half of
dst. (That a dst of R10, which does not decode, discards the result is the model's choice, log 18.)
[R120, R121, R125, R127, R128, R129, R131, R138, R139, R140, R342, R23] -/
def Obligations.Arithmetic32Results : Prop :=
  ∀ (s : State) (dst : Reg) (a64 : Word), s.regs.get dst = .value a64 →
    let a : Half := a64.setWidth 32
    let out (v : Half) : StepOutcome :=
      .next { s with regs := s.regs.set dst (.value (v.setWidth 64)), pc := s.pc + 1 }
    (∀ b : Half,
      exec (.add32K dst b) s = out (a + b) ∧
      exec (.sub32K dst b) s = out (a - b) ∧
      exec (.mul32K dst b) s = out (a * b) ∧
      exec (.div32K dst b) s = out (if b = 0 then 0 else BitVec.ofNat 32 (a.toNat / b.toNat)) ∧
      exec (.or32K dst b) s = out (a ||| b) ∧
      exec (.and32K dst b) s = out (a &&& b) ∧
      exec (.xor32K dst b) s = out (a ^^^ b) ∧
      exec (.mod32K dst b) s = out (if b = 0 then a else BitVec.ofNat 32 (a.toNat % b.toNat))) ∧
    (∀ (src : Reg) (b64 : Word), s.regs.get src = .value b64 →
      let b : Half := b64.setWidth 32
      exec (.add32X dst src) s = out (a + b) ∧
      exec (.sub32X dst src) s = out (a - b) ∧
      exec (.mul32X dst src) s = out (a * b) ∧
      exec (.div32X dst src) s = out (if b = 0 then 0 else BitVec.ofNat 32 (a.toNat / b.toNat)) ∧
      exec (.or32X dst src) s = out (a ||| b) ∧
      exec (.and32X dst src) s = out (a &&& b) ∧
      exec (.xor32X dst src) s = out (a ^^^ b) ∧
      exec (.mod32X dst src) s = out (if b = 0 then a else BitVec.ofNat 32 (a.toNat % b.toNat)))

/-- NEG writes the two's complement negation of its operand at its width (zero-extended for 32
bits); MOV writes the immediate (raw for 32 bits, sign-extended for 64) or the source (its low half,
zero-extended, for 32 bits) without reading dst, which may be unwritten; pc moves by one slot and
everything else is unchanged. (A dst of R10, which does not decode, discards the result: log 18.)
[R137, R142, R143, R167, R172, R173] -/
def Obligations.NegateAndMoveResults : Prop :=
  ∀ (s : State) (dst : Reg),
    let out (v : Word) : StepOutcome :=
      .next { s with regs := s.regs.set dst (.value v), pc := s.pc + 1 }
    (∀ a : Word, s.regs.get dst = .value a →
      exec (.neg64 dst) s = out (BitVec.ofInt 64 (-a.toInt)) ∧
      exec (.neg32 dst) s = out ((BitVec.ofInt 32 (-(a.setWidth 32).toInt)).setWidth 64)) ∧
    (∀ imm : Half,
      exec (.mov64K dst imm) s = out (BitVec.ofInt 64 imm.toInt) ∧
      exec (.mov32K dst imm) s = out (BitVec.ofNat 64 imm.toNat)) ∧
    (∀ (src : Reg) (b : Word), s.regs.get src = .value b →
      exec (.mov64X dst src) s = out b ∧
      exec (.mov32X dst src) s = out (BitVec.ofNat 64 (b.toNat % 2 ^ 32)))

/-- For every state in which the operands hold values: with a count below 64, or under
cfg.SHIFT_OVERSIZE = mask, LSH, RSH and ARSH write a * 2^n, a / 2^n and the signed floor of a / 2^n,
n being the count modulo 64, move pc and change nothing else; with a count of 64 or more under fault
they raise ShiftOversize(count) and change nothing else. The K form's count is the sign-extended
immediate. (A dst of R10, which does not decode, discards the result: log 18.) [R146, R163, R164,
R165, R166, R174, R175] -/
def Obligations.Shift64Results : Prop :=
  ∀ (s : State) (dst : Reg) (a : Word), s.regs.get dst = .value a →
    let out (v : Word) : StepOutcome :=
      .next { s with regs := s.regs.set dst (.value v), pc := s.pc + 1 }
    (∀ imm : Half,
      let b : Word := imm.signExtend 64
      let n := b.toNat % 64
      (b.toNat < 64 ∨ s.cfg.shiftOversize = .mask →
        exec (.lsh64K dst imm) s = out (BitVec.ofNat 64 (a.toNat * 2 ^ n)) ∧
        exec (.rsh64K dst imm) s = out (BitVec.ofNat 64 (a.toNat / 2 ^ n)) ∧
        exec (.arsh64K dst imm) s = out (BitVec.ofInt 64 (a.toInt / 2 ^ n))) ∧
      (64 ≤ b.toNat → s.cfg.shiftOversize = .fault →
        let bad : StepOutcome := .next { s with status := .faulted (.shiftOversize b.toNat) }
        exec (.lsh64K dst imm) s = bad ∧
        exec (.rsh64K dst imm) s = bad ∧
        exec (.arsh64K dst imm) s = bad)) ∧
    (∀ (src : Reg) (b : Word), s.regs.get src = .value b →
      let n := b.toNat % 64
      (b.toNat < 64 ∨ s.cfg.shiftOversize = .mask →
        exec (.lsh64X dst src) s = out (BitVec.ofNat 64 (a.toNat * 2 ^ n)) ∧
        exec (.rsh64X dst src) s = out (BitVec.ofNat 64 (a.toNat / 2 ^ n)) ∧
        exec (.arsh64X dst src) s = out (BitVec.ofInt 64 (a.toInt / 2 ^ n))) ∧
      (64 ≤ b.toNat → s.cfg.shiftOversize = .fault →
        let bad : StepOutcome := .next { s with status := .faulted (.shiftOversize b.toNat) }
        exec (.lsh64X dst src) s = bad ∧
        exec (.rsh64X dst src) s = bad ∧
        exec (.arsh64X dst src) s = bad))

/-- As for 64 bits, on the low halves, with the raw immediate or the low half of src as the count,
the width 32, and the 32-bit result zero-extended. (A dst of R10, which does not decode, discards
the result: log 18.) [R120, R146, R133, R134, R135, R136, R144, R145] -/
def Obligations.Shift32Results : Prop :=
  ∀ (s : State) (dst : Reg) (a64 : Word), s.regs.get dst = .value a64 →
    let a : Half := a64.setWidth 32
    let out (v : Half) : StepOutcome :=
      .next { s with regs := s.regs.set dst (.value (v.setWidth 64)), pc := s.pc + 1 }
    (∀ b : Half,
      let n := b.toNat % 32
      (b.toNat < 32 ∨ s.cfg.shiftOversize = .mask →
        exec (.lsh32K dst b) s = out (BitVec.ofNat 32 (a.toNat * 2 ^ n)) ∧
        exec (.rsh32K dst b) s = out (BitVec.ofNat 32 (a.toNat / 2 ^ n)) ∧
        exec (.arsh32K dst b) s = out (BitVec.ofInt 32 (a.toInt / 2 ^ n))) ∧
      (32 ≤ b.toNat → s.cfg.shiftOversize = .fault →
        let bad : StepOutcome := .next { s with status := .faulted (.shiftOversize b.toNat) }
        exec (.lsh32K dst b) s = bad ∧
        exec (.rsh32K dst b) s = bad ∧
        exec (.arsh32K dst b) s = bad)) ∧
    (∀ (src : Reg) (b64 : Word), s.regs.get src = .value b64 →
      let b : Half := b64.setWidth 32
      let n := b.toNat % 32
      (b.toNat < 32 ∨ s.cfg.shiftOversize = .mask →
        exec (.lsh32X dst src) s = out (BitVec.ofNat 32 (a.toNat * 2 ^ n)) ∧
        exec (.rsh32X dst src) s = out (BitVec.ofNat 32 (a.toNat / 2 ^ n)) ∧
        exec (.arsh32X dst src) s = out (BitVec.ofInt 32 (a.toInt / 2 ^ n))) ∧
      (32 ≤ b.toNat → s.cfg.shiftOversize = .fault →
        let bad : StepOutcome := .next { s with status := .faulted (.shiftOversize b.toNat) }
        exec (.lsh32X dst src) s = bad ∧
        exec (.rsh32X dst src) s = bad ∧
        exec (.arsh32X dst src) s = bad))

/-- For both operand widths N and every count b: shift_count_N(b) is b when b is below N; otherwise
ShiftOversize(b) is raised under cfg.SHIFT_OVERSIZE = fault, and b & (N - 1) is used under mask.
What follows the count is arbitrary. [R146] -/
def Obligations.ShiftCountRule : Prop :=
  ∀ (s : State) (k : Nat → StepOutcome),
    (∀ b : Half,
      (b.toNat < 32 → shiftCount s b k = k b.toNat) ∧
      (32 ≤ b.toNat → s.cfg.shiftOversize = .fault →
        shiftCount s b k = .next { s with status := .faulted (.shiftOversize b.toNat) }) ∧
      (32 ≤ b.toNat → s.cfg.shiftOversize = .mask → shiftCount s b k = k (b &&& 31).toNat)) ∧
    (∀ b : Word,
      (b.toNat < 64 → shiftCount s b k = k b.toNat) ∧
      (64 ≤ b.toNat → s.cfg.shiftOversize = .fault →
        shiftCount s b k = .next { s with status := .faulted (.shiftOversize b.toNat) }) ∧
      (64 ≤ b.toNat → s.cfg.shiftOversize = .mask → shiftCount s b k = k (b &&& 63).toNat))

/-- For every state in which dst holds a value: where the conversion is the identity (le on a
little-endian host, be on a big-endian one) the low 16, 32 or 64 bits are kept, and otherwise their
bytes are reversed; the result is zero-extended, pc moves by one slot and nothing else changes. (A
dst of R10, which does not decode, discards the result: log 18.) [R180, R181, R182, R183, R184,
R185, R186] -/
def Obligations.ByteSwapResults : Prop :=
  ∀ (s : State) (dst : Reg) (a : Word), s.regs.get dst = .value a →
    let out (v : Word) : StepOutcome :=
      .next { s with regs := s.regs.set dst (.value v), pc := s.pc + 1 }
    let byte (k : Nat) : Byte := BitVec.ofNat 8 (a.toNat / 256 ^ k)
    let keep16 := BitVec.ofNat 64 (a.toNat % 2 ^ 16)
    let keep32 := BitVec.ofNat 64 (a.toNat % 2 ^ 32)
    let swap16 : Word := (byte 0 ++ byte 1).setWidth 64
    let swap32 : Word := (byte 0 ++ byte 1 ++ byte 2 ++ byte 3).setWidth 64
    let swap64 : Word :=
      byte 0 ++ byte 1 ++ byte 2 ++ byte 3 ++ byte 4 ++ byte 5 ++ byte 6 ++ byte 7
    (s.cfg.endian = .little →
      exec (.le16 dst) s = out keep16 ∧ exec (.le32 dst) s = out keep32 ∧
      exec (.le64 dst) s = out a ∧
      exec (.be16 dst) s = out swap16 ∧ exec (.be32 dst) s = out swap32 ∧
      exec (.be64 dst) s = out swap64) ∧
    (s.cfg.endian = .big →
      exec (.le16 dst) s = out swap16 ∧ exec (.le32 dst) s = out swap32 ∧
      exec (.le64 dst) s = out swap64 ∧
      exec (.be16 dst) s = out keep16 ∧ exec (.be32 dst) s = out keep32 ∧
      exec (.be64 dst) s = out a)

/-- For every state in which the operands hold values and the target npc + offset is not below 0:
each jump sets pc to the target when its comparison (equal, unsigned, signed, or bits in common; the
immediate sign-extended) holds and to the next slot otherwise, and changes nothing else. [R190,
R192, R194, R196, R198, R200, R202, R204, R206, R208, R210, R214] -/
def Obligations.ConditionalJumps64Go : Prop :=
  ∀ (s : State) (dst : Reg) (offset : BitVec 16) (a : Word), s.regs.get dst = .value a →
    let target : Int := s.pc + 1 + offset.toInt
    let out (taken : Bool) : StepOutcome :=
      if taken then .next { s with pc := target.toNat } else .next { s with pc := s.pc + 1 }
    0 ≤ target →
    (∀ imm : Half,
      let b : Word := imm.signExtend 64
      exec (.jeqK dst offset imm) s = out (decide (a = b)) ∧
      exec (.jgtK dst offset imm) s = out (decide (a.toNat > b.toNat)) ∧
      exec (.jgeK dst offset imm) s = out (decide (a.toNat ≥ b.toNat)) ∧
      exec (.jsetK dst offset imm) s = out (decide (a &&& b ≠ 0)) ∧
      exec (.jneK dst offset imm) s = out (decide (a ≠ b)) ∧
      exec (.jsgtK dst offset imm) s = out (decide (a.toInt > b.toInt)) ∧
      exec (.jsgeK dst offset imm) s = out (decide (a.toInt ≥ b.toInt)) ∧
      exec (.jltK dst offset imm) s = out (decide (a.toNat < b.toNat)) ∧
      exec (.jleK dst offset imm) s = out (decide (a.toNat ≤ b.toNat)) ∧
      exec (.jsltK dst offset imm) s = out (decide (a.toInt < b.toInt)) ∧
      exec (.jsleK dst offset imm) s = out (decide (a.toInt ≤ b.toInt))) ∧
    (∀ (src : Reg) (b : Word), s.regs.get src = .value b →
      exec (.jeqX dst src offset) s = out (decide (a = b)) ∧
      exec (.jgtX dst src offset) s = out (decide (a.toNat > b.toNat)) ∧
      exec (.jgeX dst src offset) s = out (decide (a.toNat ≥ b.toNat)) ∧
      exec (.jsetX dst src offset) s = out (decide (a &&& b ≠ 0)) ∧
      exec (.jneX dst src offset) s = out (decide (a ≠ b)) ∧
      exec (.jsgtX dst src offset) s = out (decide (a.toInt > b.toInt)) ∧
      exec (.jsgeX dst src offset) s = out (decide (a.toInt ≥ b.toInt)) ∧
      exec (.jltX dst src offset) s = out (decide (a.toNat < b.toNat)) ∧
      exec (.jleX dst src offset) s = out (decide (a.toNat ≤ b.toNat)) ∧
      exec (.jsltX dst src offset) s = out (decide (a.toInt < b.toInt)) ∧
      exec (.jsleX dst src offset) s = out (decide (a.toInt ≤ b.toInt)))

/-- As for 64 bits, comparing the low halves of the registers or the raw immediate, and changing no
register. [R190, R220, R221, R223, R225, R227, R229, R231, R233, R235, R237, R239] -/
def Obligations.ConditionalJumps32Go : Prop :=
  ∀ (s : State) (dst : Reg) (offset : BitVec 16) (a64 : Word), s.regs.get dst = .value a64 →
    let a : Half := a64.setWidth 32
    let target : Int := s.pc + 1 + offset.toInt
    let out (taken : Bool) : StepOutcome :=
      if taken then .next { s with pc := target.toNat } else .next { s with pc := s.pc + 1 }
    0 ≤ target →
    (∀ b : Half,
      exec (.jeq32K dst offset b) s = out (decide (a = b)) ∧
      exec (.jgt32K dst offset b) s = out (decide (a.toNat > b.toNat)) ∧
      exec (.jge32K dst offset b) s = out (decide (a.toNat ≥ b.toNat)) ∧
      exec (.jset32K dst offset b) s = out (decide (a &&& b ≠ 0)) ∧
      exec (.jne32K dst offset b) s = out (decide (a ≠ b)) ∧
      exec (.jsgt32K dst offset b) s = out (decide (a.toInt > b.toInt)) ∧
      exec (.jsge32K dst offset b) s = out (decide (a.toInt ≥ b.toInt)) ∧
      exec (.jlt32K dst offset b) s = out (decide (a.toNat < b.toNat)) ∧
      exec (.jle32K dst offset b) s = out (decide (a.toNat ≤ b.toNat)) ∧
      exec (.jslt32K dst offset b) s = out (decide (a.toInt < b.toInt)) ∧
      exec (.jsle32K dst offset b) s = out (decide (a.toInt ≤ b.toInt))) ∧
    (∀ (src : Reg) (b64 : Word), s.regs.get src = .value b64 →
      let b : Half := b64.setWidth 32
      exec (.jeq32X dst src offset) s = out (decide (a = b)) ∧
      exec (.jgt32X dst src offset) s = out (decide (a.toNat > b.toNat)) ∧
      exec (.jge32X dst src offset) s = out (decide (a.toNat ≥ b.toNat)) ∧
      exec (.jset32X dst src offset) s = out (decide (a &&& b ≠ 0)) ∧
      exec (.jne32X dst src offset) s = out (decide (a ≠ b)) ∧
      exec (.jsgt32X dst src offset) s = out (decide (a.toInt > b.toInt)) ∧
      exec (.jsge32X dst src offset) s = out (decide (a.toInt ≥ b.toInt)) ∧
      exec (.jlt32X dst src offset) s = out (decide (a.toNat < b.toNat)) ∧
      exec (.jle32X dst src offset) s = out (decide (a.toNat ≤ b.toNat)) ∧
      exec (.jslt32X dst src offset) s = out (decide (a.toInt < b.toInt)) ∧
      exec (.jsle32X dst src offset) s = out (decide (a.toInt ≤ b.toInt)))

/-- For every state in which the operands hold values and the target is below 0, and for all 44
conditional jumps: one whose comparison holds raises PcOutOfRange(target) and changes nothing else,
and one whose comparison fails moves pc to the next slot and changes nothing else. [R190, R192,
R193, R214, R220, R221, R222, R341, R344, R345] -/
def Obligations.ConditionalJumpsBelowZeroFault : Prop :=
  (∀ (s : State) (dst : Reg) (offset : BitVec 16) (a : Word), s.regs.get dst = .value a →
      let target : Int := s.pc + 1 + offset.toInt
      let out (taken : Bool) : StepOutcome :=
        if taken then .next { s with status := .faulted (.pcOutOfRange target) }
        else .next { s with pc := s.pc + 1 }
      target < 0 →
      (∀ imm : Half,
        let b : Word := imm.signExtend 64
        exec (.jeqK dst offset imm) s = out (decide (a = b)) ∧
        exec (.jgtK dst offset imm) s = out (decide (a.toNat > b.toNat)) ∧
        exec (.jgeK dst offset imm) s = out (decide (a.toNat ≥ b.toNat)) ∧
        exec (.jsetK dst offset imm) s = out (decide (a &&& b ≠ 0)) ∧
        exec (.jneK dst offset imm) s = out (decide (a ≠ b)) ∧
        exec (.jsgtK dst offset imm) s = out (decide (a.toInt > b.toInt)) ∧
        exec (.jsgeK dst offset imm) s = out (decide (a.toInt ≥ b.toInt)) ∧
        exec (.jltK dst offset imm) s = out (decide (a.toNat < b.toNat)) ∧
        exec (.jleK dst offset imm) s = out (decide (a.toNat ≤ b.toNat)) ∧
        exec (.jsltK dst offset imm) s = out (decide (a.toInt < b.toInt)) ∧
        exec (.jsleK dst offset imm) s = out (decide (a.toInt ≤ b.toInt))) ∧
      (∀ (src : Reg) (b : Word), s.regs.get src = .value b →
        exec (.jeqX dst src offset) s = out (decide (a = b)) ∧
        exec (.jgtX dst src offset) s = out (decide (a.toNat > b.toNat)) ∧
        exec (.jgeX dst src offset) s = out (decide (a.toNat ≥ b.toNat)) ∧
        exec (.jsetX dst src offset) s = out (decide (a &&& b ≠ 0)) ∧
        exec (.jneX dst src offset) s = out (decide (a ≠ b)) ∧
        exec (.jsgtX dst src offset) s = out (decide (a.toInt > b.toInt)) ∧
        exec (.jsgeX dst src offset) s = out (decide (a.toInt ≥ b.toInt)) ∧
        exec (.jltX dst src offset) s = out (decide (a.toNat < b.toNat)) ∧
        exec (.jleX dst src offset) s = out (decide (a.toNat ≤ b.toNat)) ∧
        exec (.jsltX dst src offset) s = out (decide (a.toInt < b.toInt)) ∧
        exec (.jsleX dst src offset) s = out (decide (a.toInt ≤ b.toInt)))) ∧
  (∀ (s : State) (dst : Reg) (offset : BitVec 16) (a64 : Word), s.regs.get dst = .value a64 →
      let a : Half := a64.setWidth 32
      let target : Int := s.pc + 1 + offset.toInt
      let out (taken : Bool) : StepOutcome :=
        if taken then .next { s with status := .faulted (.pcOutOfRange target) }
        else .next { s with pc := s.pc + 1 }
      target < 0 →
      (∀ b : Half,
        exec (.jeq32K dst offset b) s = out (decide (a = b)) ∧
        exec (.jgt32K dst offset b) s = out (decide (a.toNat > b.toNat)) ∧
        exec (.jge32K dst offset b) s = out (decide (a.toNat ≥ b.toNat)) ∧
        exec (.jset32K dst offset b) s = out (decide (a &&& b ≠ 0)) ∧
        exec (.jne32K dst offset b) s = out (decide (a ≠ b)) ∧
        exec (.jsgt32K dst offset b) s = out (decide (a.toInt > b.toInt)) ∧
        exec (.jsge32K dst offset b) s = out (decide (a.toInt ≥ b.toInt)) ∧
        exec (.jlt32K dst offset b) s = out (decide (a.toNat < b.toNat)) ∧
        exec (.jle32K dst offset b) s = out (decide (a.toNat ≤ b.toNat)) ∧
        exec (.jslt32K dst offset b) s = out (decide (a.toInt < b.toInt)) ∧
        exec (.jsle32K dst offset b) s = out (decide (a.toInt ≤ b.toInt))) ∧
      (∀ (src : Reg) (b64 : Word), s.regs.get src = .value b64 →
        let b : Half := b64.setWidth 32
        exec (.jeq32X dst src offset) s = out (decide (a = b)) ∧
        exec (.jgt32X dst src offset) s = out (decide (a.toNat > b.toNat)) ∧
        exec (.jge32X dst src offset) s = out (decide (a.toNat ≥ b.toNat)) ∧
        exec (.jset32X dst src offset) s = out (decide (a &&& b ≠ 0)) ∧
        exec (.jne32X dst src offset) s = out (decide (a ≠ b)) ∧
        exec (.jsgt32X dst src offset) s = out (decide (a.toInt > b.toInt)) ∧
        exec (.jsge32X dst src offset) s = out (decide (a.toInt ≥ b.toInt)) ∧
        exec (.jlt32X dst src offset) s = out (decide (a.toNat < b.toNat)) ∧
        exec (.jle32X dst src offset) s = out (decide (a.toNat ≤ b.toNat)) ∧
        exec (.jslt32X dst src offset) s = out (decide (a.toInt < b.toInt)) ∧
        exec (.jsle32X dst src offset) s = out (decide (a.toInt ≤ b.toInt))))

/-- JA with any offset, at every state: the target is pc + 1 + offset in the integers; when it is
not below 0 (also when it is past the end of the program) pc becomes the target and nothing else
changes, and when it is below 0 the jump raises PcOutOfRange(target) with everything else, pc
included, as it was. The offset reaches from 32768 slots back to 32767 forward. A conditional jump
does the same when taken, and only moves pc to the next slot when not. [R32, R190, R191] -/
def Obligations.JumpAlwaysGoes : Prop :=
  (∀ (s : State) (offset : BitVec 16),
    let target : Int := s.pc + 1 + offset.toInt
    let go : StepOutcome :=
      if target < 0 then .next { s with status := .faulted (.pcOutOfRange target) }
      else .next { s with pc := target.toNat }
    exec (.ja offset) s = go ∧ branch s true offset = go ∧
      branch s false offset = .next { s with pc := s.pc + 1 }) ∧
    (∀ offset : BitVec 16, -32768 ≤ offset.toInt ∧ offset.toInt ≤ 32767)

/-- For both numbering spaces: when the platform has the helper, the argument registers it reads
(the first nargs of R1 to R5) hold values and the outcome of its contract is a return, the call
answers the next state in which R0 holds the result cell, R1 to R5 are unwritten, R6 to R10, the
call stack and the status are as before, pc has moved by one slot, and data memory and the
platform's regions are as the outcome says. The outcome is a member of the set that the entry's run
gives for the arguments, data memory and regions (the live frames among them), which member being
open: each is taken for some choice, the first of the state's choices where it lists one, and where
a line of run speaks of these arguments, memory and regions the members are exactly the outcomes of
that line. (The choices, used up one for each return, and the lines are the model's form of the
relation run: DESIGN CHOICE, logs 7 and 14.) [R28, R40, R247, R248, R250, R252, R375] -/
def Obligations.HelperCallsReturn : Prop :=
  (∀ (s : State) (imm : Half) (h : HelperEntry) (args : List Word) (r : RegCell)
    (edits : List MemEdit) (regions : List Region),
    ([Reg.r1, .r2, .r3, .r4, .r5].take h.nargs.val).map s.regs.get = args.map RegCell.value →
    let done : StepOutcome := .next { s with
      regs :=
        { s.regs with
          r0 := r, r1 := .unwritten, r2 := .unwritten, r3 := .unwritten, r4 := .unwritten,
          r5 := .unwritten }
      pc := s.pc + 1, mem := Memory.editAll s.mem edits, grantedRegions := regions,
      choices := s.choices.tail }
    (s.cfg.helperAgnostic.find? (fun e => decide (e.number = imm.toInt)) = some h →
      nextHelperOutcome s h.run args = .returned r edits regions →
      exec (.callHelper imm) s = done) ∧
    (s.cfg.helperSpecific.find? (fun e => decide (e.number = imm.toInt)) = some h →
      nextHelperOutcome s h.run args = .returned r edits regions →
      exec (.callHelperSpecific imm) s = done)) ∧
    ∀ (s : State) (h : HelperEntry) (args : List Word),
      let member (o : HelperOutcome) : Prop :=
        ∃ k : Nat, helperOutcome h.run args s.mem s.regions k = o
      member (nextHelperOutcome s h.run args) ∧
      (∀ o : HelperOutcome, member o →
        ∃ k : Nat, ∀ rest : List Nat,
          nextHelperOutcome { s with choices := k :: rest } h.run args = o) ∧
      (∀ c : HelperCase, h.run.cases.find? (fun c => caseSpeaksOf c args s.mem s.regions) = some c →
        ∀ o : HelperOutcome, member o ↔ o ∈ c.first :: c.others)

/-- For both numbering spaces, an absent number raises UnknownHelper(space, number); a present
helper with an unwritten argument register raises UnwrittenRegister of the lowest one; and an
outcome that is a fault raises HelperFault(number, info). Each changes nothing but the status. (That
info is a natural number is the model's choice, log 15; that the number recorded is imm as the
signed integer of R247's sext(imm) is log 17, DEDUCED; how an outcome is chosen is log 7.) [R247,
R248, R250, R341, R344] -/
def Obligations.HelperCallsFault : Prop :=
  ∀ (s : State) (imm : Half),
    let bad (f : FaultInfo) : StepOutcome := .next { s with status := .faulted f }
    (s.cfg.helperAgnostic.find? (fun e => decide (e.number = imm.toInt)) = none →
      exec (.callHelper imm) s = bad (.unknownHelper .agnostic imm.toInt)) ∧
    (∀ h : HelperEntry, s.cfg.helperAgnostic.find? (fun e => decide (e.number = imm.toInt)) = some h →
      (∀ (before after : List Reg) (r : Reg),
        [Reg.r1, .r2, .r3, .r4, .r5].take h.nargs.val = before ++ r :: after →
        (∀ q ∈ before, s.regs.get q ≠ .unwritten) → s.regs.get r = .unwritten →
        exec (.callHelper imm) s = bad (.unwrittenRegister r)) ∧
      (∀ (args : List Word) (info : Nat),
        ([Reg.r1, .r2, .r3, .r4, .r5].take h.nargs.val).map s.regs.get = args.map RegCell.value →
        nextHelperOutcome s h.run args = .faulted info →
        exec (.callHelper imm) s = bad (.helperFault imm.toInt info))) ∧
    (s.cfg.helperSpecific.find? (fun e => decide (e.number = imm.toInt)) = none →
      exec (.callHelperSpecific imm) s = bad (.unknownHelper .specific imm.toInt)) ∧
    (∀ h : HelperEntry, s.cfg.helperSpecific.find? (fun e => decide (e.number = imm.toInt)) = some h →
      (∀ (before after : List Reg) (r : Reg),
        [Reg.r1, .r2, .r3, .r4, .r5].take h.nargs.val = before ++ r :: after →
        (∀ q ∈ before, s.regs.get q ≠ .unwritten) → s.regs.get r = .unwritten →
        exec (.callHelperSpecific imm) s = bad (.unwrittenRegister r)) ∧
      (∀ (args : List Word) (info : Nat),
        ([Reg.r1, .r2, .r3, .r4, .r5].take h.nargs.val).map s.regs.get = args.map RegCell.value →
        nextHelperOutcome s h.run args = .faulted info →
        exec (.callHelperSpecific imm) s = bad (.helperFault imm.toInt info)))

/-- Applying an outcome's list of byte edits to any memory: a byte no edit names reads as before,
and after the last edit of a byte it reads as that edit says, a value or unwritten. [R248, R58] -/
def Obligations.PlatformEditsReachOneByte : Prop :=
  ∀ (m : Memory) (es : List MemEdit),
    (∀ x : Nat, (∀ e ∈ es, e.addr.toNat ≠ x) →
      Memory.read (Memory.editAll m es) x = Memory.read m x) ∧
    (∀ e : MemEdit, Memory.read (Memory.editAll m (es ++ [e])) e.addr.toNat = e.cell)

/-- When fewer than cfg.MAX_CALL_DEPTH calls are active and the target npc + disp is not below 0
(disp is offset or imm as cfg.LOCAL_CALL_FIELD says), the call answers the next state in which the
record (npc, R10, R6 to R9) is pushed, R0 is unwritten, R1 to R5 are unchanged, R6 to R9 are
unchanged under check and unwritten under machine, R10 is cfg.frame_ptr of the new depth, pc is the
target; every byte of the new frame is unwritten and every other byte reads as before; and nothing
else changes. (The finite table behind frame_ptr is the model's, log 13; the live frames among the
regions follow R10 and the call stack, log 12.) [R28, R36, R58, R67, R249, R252, R253] -/
def Obligations.LocalCallEntersCallee : Prop :=
  ∀ (s : State) (offset : BitVec 16) (imm : Half),
    let disp : Int := if s.cfg.localCallField = .offset then offset.toInt else imm.toInt
    let target : Int := s.pc + 1 + disp
    let fp : Word := s.cfg.framePtr (s.frames.length + 1)
    let kept : RegFile := { s.regs with r0 := .unwritten, r10 := fp }
    s.frames.length < s.cfg.maxCallDepth → 0 ≤ target →
    ∃ t : State, exec (.callLocal offset imm) s = .next t ∧
      t = { s with
        regs :=
          if s.cfg.calleeSaved = .check then kept
          else { kept with r6 := .unwritten, r7 := .unwritten, r8 := .unwritten, r9 := .unwritten }
        pc := target.toNat
        frames := ⟨s.pc + 1, s.regs.r10, s.regs.r6, s.regs.r7, s.regs.r8, s.regs.r9⟩ :: s.frames
        mem := t.mem } ∧
      ∀ x : Nat,
        Memory.read t.mem x =
          if (fp - s.cfg.stackSize).toNat ≤ x ∧ x < (fp - s.cfg.stackSize).toNat + s.cfg.stackSize.toNat
          then none else Memory.read s.mem x

/-- With no call active and R0 holding v, EXIT answers the next state with status Exited(v), pc at
the next slot (step 6 of R31, log 11) and nothing else changed. With a call active and, under check,
every saved register that was a value holding it again, EXIT pops the record, puts R6 to R9 and R10
back, makes R1 to R5 unwritten, keeps R0 and continues at the saved slot, changing nothing else.
[R28, R31, R36, R37, R251, R252] -/
def Obligations.ExitEndsOrReturns : Prop :=
  ∀ s : State,
    (∀ v : Word, s.frames = [] → s.regs.get .r0 = .value v →
      exec .exit s = .next { s with status := .exited v, pc := s.pc + 1 }) ∧
    (∀ (f : Frame) (rest : List Frame), s.frames = f :: rest →
      (s.cfg.calleeSaved = .machine ∨
        ((f.saved6 = .unwritten ∨ s.regs.r6 = f.saved6) ∧
          (f.saved7 = .unwritten ∨ s.regs.r7 = f.saved7) ∧
          (f.saved8 = .unwritten ∨ s.regs.r8 = f.saved8) ∧
          (f.saved9 = .unwritten ∨ s.regs.r9 = f.saved9))) →
      exec .exit s = .next { s with
        regs :=
          { r0 := s.regs.r0, r1 := .unwritten, r2 := .unwritten, r3 := .unwritten,
            r4 := .unwritten, r5 := .unwritten, r6 := f.saved6, r7 := f.saved7,
            r8 := f.saved8, r9 := f.saved9, r10 := f.fp }
        pc := f.ret, frames := rest })

/-- With cfg.MAX_CALL_DEPTH calls active a BPF-local call raises CallDepthExceeded, whatever its
target; otherwise a target below 0 raises PcOutOfRange(target) at once. With no call active and R0
unwritten, EXIT raises UnwrittenRegister(0). With a call active under check, the lowest of R6 to R9
whose saved cell is a value that the register does not hold is reported by CalleeSavedClobbered.
Nothing but the status changes. [R27, R36, R249, R251, R341, R344] -/
def Obligations.LocalCallAndExitFaults : Prop :=
  ∀ s : State,
    let bad (f : FaultInfo) : StepOutcome := .next { s with status := .faulted f }
    let lost (saved now : RegCell) : Prop := saved ≠ .unwritten ∧ now ≠ saved
    (∀ (offset : BitVec 16) (imm : Half),
      let disp : Int := if s.cfg.localCallField = .offset then offset.toInt else imm.toInt
      let target : Int := s.pc + 1 + disp
      (s.cfg.maxCallDepth ≤ s.frames.length →
        exec (.callLocal offset imm) s = bad .callDepthExceeded) ∧
      (s.frames.length < s.cfg.maxCallDepth → target < 0 →
        exec (.callLocal offset imm) s = bad (.pcOutOfRange target))) ∧
    (s.frames = [] → s.regs.get .r0 = .unwritten → exec .exit s = bad (.unwrittenRegister .r0)) ∧
    (∀ (f : Frame) (rest : List Frame), s.frames = f :: rest → s.cfg.calleeSaved = .check →
      (lost f.saved6 s.regs.r6 → exec .exit s = bad (.calleeSavedClobbered .r6)) ∧
      (¬lost f.saved6 s.regs.r6 → lost f.saved7 s.regs.r7 →
        exec .exit s = bad (.calleeSavedClobbered .r7)) ∧
      (¬lost f.saved6 s.regs.r6 → ¬lost f.saved7 s.regs.r7 → lost f.saved8 s.regs.r8 →
        exec .exit s = bad (.calleeSavedClobbered .r8)) ∧
      (¬lost f.saved6 s.regs.r6 → ¬lost f.saved7 s.regs.r7 → ¬lost f.saved8 s.regs.r8 →
        lost f.saved9 s.regs.r9 → exec .exit s = bad (.calleeSavedClobbered .r9)))

/-- Whatever the callee did: when a call made at a running state s entered the callee, and an EXIT
reached with the same call stack as at the callee's entry returns without a fault, then R6 to R10
and the call stack are exactly those of s, pc is the slot after the call, and R1 to R5 are
unwritten, under either setting of cfg.CALLEE_SAVED. [R28, R36, R249, R251, R252] -/
def Obligations.CallAndReturnPreserveCalleeSaved : Prop :=
  ∀ (s t u w : State) (offset : BitVec 16) (imm : Half), s.status = .running →
    exec (.callLocal offset imm) s = .next t → t.status = .running →
    u.frames = t.frames → u.status = .running → exec .exit u = .next w → w.status = .running →
      w.frames = s.frames ∧ w.pc = s.pc + 1 ∧
      (∀ r ∈ [Reg.r6, .r7, .r8, .r9, .r10], w.regs.get r = s.regs.get r) ∧
      (∀ r ∈ [Reg.r1, .r2, .r3, .r4, .r5], w.regs.get r = .unwritten)

/-- For every base and every 16-bit offset the effective address is base + sext_64(offset) modulo
2^64; the sum wraps and no value of it is refused. Loads, stores and atomics use it (their own
statements). [R53] -/
def Obligations.EffectiveAddressRule : Prop :=
  ∀ (base : Word) (offset : BitVec 16),
    effectiveAddress base offset = base + offset.signExtend 64 ∧
      ((effectiveAddress base offset).toNat : Int) = ((base.toNat : Int) + offset.toInt) % 2 ^ 64

/-- With little the byte at the lowest address is the least significant and with big the most
significant, for reads of 1, 2, 4 and 8 bytes, which zero-extend; and laying out the low bytes of a
value follows the same order. So the bytes of a 4-byte store of 0x11223344 read back one by one as
R57 says. [R56, R57, R60] -/
def Obligations.DataByteOrder : Prop :=
  (∀ b0 b1 b2 b3 b4 b5 b6 b7 : Byte,
    bytesToWord .little [b0] = b0.setWidth 64 ∧ bytesToWord .big [b0] = b0.setWidth 64 ∧
    bytesToWord .little [b0, b1] = (b1 ++ b0).setWidth 64 ∧
    bytesToWord .big [b0, b1] = (b0 ++ b1).setWidth 64 ∧
    bytesToWord .little [b0, b1, b2, b3] = (b3 ++ b2 ++ b1 ++ b0).setWidth 64 ∧
    bytesToWord .big [b0, b1, b2, b3] = (b0 ++ b1 ++ b2 ++ b3).setWidth 64 ∧
    bytesToWord .little [b0, b1, b2, b3, b4, b5, b6, b7] =
      b7 ++ b6 ++ b5 ++ b4 ++ b3 ++ b2 ++ b1 ++ b0 ∧
    bytesToWord .big [b0, b1, b2, b3, b4, b5, b6, b7] =
      b0 ++ b1 ++ b2 ++ b3 ++ b4 ++ b5 ++ b6 ++ b7) ∧
    (∀ (e : Endian) (n : Nat) (v : Word), n ≤ 8 →
      (wordToBytes e n v).length = n ∧
      bytesToWord e (wordToBytes e n v) = BitVec.ofNat 64 (v.toNat % 2 ^ (8 * n))) ∧
    (∀ (e : Endian) (bs : List Byte), bs.length ≤ 8 →
      wordToBytes e bs.length (bytesToWord e bs) = bs)

/-- For every state, address, size and kind: the access is admitted exactly when one region, a live
stack frame [R10 or a caller's frame pointer - STACK_SIZE, that pointer) or one of the platform's,
contains every byte without wrapping past 2^64 and permits the kind (an atomic needs both
permissions; a stack frame permits everything and is not shared), and the address is a multiple of
the size where that is required: always for atomics, under strict for plain accesses. (That the live
frames are computed from R10 and the call stack, and that overlapping regions, which R52 forbids,
admit what any one of them admits, is the model's choice, log 12.) [R52, R55, R59, R60, R67] -/
def Obligations.AdmissionRule : Prop :=
  ∀ (s : State) (ea : Word) (n : Nat) (kind : AccessKind),
    (s.admits ea n kind = true ↔
      (∃ r ∈ s.regions, r.base.toNat ≤ ea.toNat ∧ ea.toNat + n ≤ r.base.toNat + r.size.toNat ∧
        ea.toNat + n ≤ 2 ^ 64 ∧ (kind ≠ .write → r.readable = true) ∧
        (kind ≠ .read → r.writable = true)) ∧
      (kind = .atomic ∨ s.cfg.alignPolicy = .strict → ea.toNat % n = 0)) ∧
    ∀ r : Region, r ∈ s.regions ↔
      r ∈ s.grantedRegions ∨
        ∃ fp : Word, (fp = s.regs.r10 ∨ ∃ f ∈ s.frames, f.fp = fp) ∧
          r = { base := fp - s.cfg.stackSize, size := s.cfg.stackSize, readable := true,
                writable := true, shared := false }

/-- For every state in which src holds a base, the access is admitted for reading and its bytes hold
values: the load answers the next state in which dst holds the assembled bytes, zero-extended (dst
may have been unwritten and may be src), pc has moved by one slot, and nothing else, memory
included, has changed. (A dst of R10, which does not decode, discards the result: log 18.) [R55,
R56, R260, R261, R262, R263, R264] -/
def Obligations.LoadResults : Prop :=
  ∀ (s : State) (dst src : Reg) (offset : BitVec 16) (base : Word) (bs : List Byte),
    s.regs.get src = .value base →
    let ea : Word := base + offset.signExtend 64
    let out : StepOutcome :=
      .next { s with regs := s.regs.set dst (.value (bytesToWord s.cfg.endian bs)), pc := s.pc + 1 }
    let readable (n : Nat) : Prop :=
      s.admits ea n .read = true ∧ Memory.readBytes s.mem ea.toNat n = some bs
    (readable 4 → exec (.ldxw dst src offset) s = out) ∧
    (readable 2 → exec (.ldxh dst src offset) s = out) ∧
    (readable 1 → exec (.ldxb dst src offset) s = out) ∧
    (readable 8 → exec (.ldxdw dst src offset) s = out)

/-- For every state in which dst holds a base and the access is admitted for writing: the store
answers the next state in which the 1, 2, 4 or 8 bytes at base + offset are the low bytes of the
sign-extended immediate in the order cfg.ENDIAN gives, every other byte reads as before, pc has
moved by one slot, and no register or anything else has changed. [R55, R56, R60, R260, R265, R266,
R267, R268] -/
def Obligations.StoreImmediateResults : Prop :=
  ∀ (s : State) (dst : Reg) (offset : BitVec 16) (imm : Half) (base : Word),
    s.regs.get dst = .value base →
    let ea : Word := base + offset.signExtend 64
    let done (n : Nat) (v : Word) (o : StepOutcome) : Prop :=
      ∃ t : State, o = .next t ∧ t = { s with mem := t.mem, pc := s.pc + 1 } ∧
        Memory.readBytes t.mem ea.toNat n = some (wordToBytes s.cfg.endian n v) ∧
        ∀ x : Nat, x < ea.toNat ∨ ea.toNat + n ≤ x → Memory.read t.mem x = Memory.read s.mem x
    (s.admits ea 4 .write = true → done 4 (imm.signExtend 64) (exec (.stw dst offset imm) s)) ∧
    (s.admits ea 2 .write = true → done 2 (imm.signExtend 64) (exec (.sth dst offset imm) s)) ∧
    (s.admits ea 1 .write = true → done 1 (imm.signExtend 64) (exec (.stb dst offset imm) s)) ∧
    (s.admits ea 8 .write = true → done 8 (imm.signExtend 64) (exec (.stdw dst offset imm) s))

/-- For every state in which dst holds a base, src a value and the access is admitted for writing:
as the stores of an immediate, with the low bytes of src. [R55, R56, R60, R260, R269, R270, R271,
R272] -/
def Obligations.StoreRegisterResults : Prop :=
  ∀ (s : State) (dst src : Reg) (offset : BitVec 16) (base v : Word),
    s.regs.get dst = .value base → s.regs.get src = .value v →
    let ea : Word := base + offset.signExtend 64
    let done (n : Nat) (v : Word) (o : StepOutcome) : Prop :=
      ∃ t : State, o = .next t ∧ t = { s with mem := t.mem, pc := s.pc + 1 } ∧
        Memory.readBytes t.mem ea.toNat n = some (wordToBytes s.cfg.endian n v) ∧
        ∀ x : Nat, x < ea.toNat ∨ ea.toNat + n ≤ x → Memory.read t.mem x = Memory.read s.mem x
    (s.admits ea 4 .write = true → done 4 v (exec (.stxw dst src offset) s)) ∧
    (s.admits ea 2 .write = true → done 2 v (exec (.stxh dst src offset) s)) ∧
    (s.admits ea 1 .write = true → done 1 v (exec (.stxb dst src offset) s)) ∧
    (s.admits ea 8 .write = true → done 8 v (exec (.stxdw dst src offset) s))

/-- For every state in which the registers read hold values: a load not admitted raises
MemoryFault(ea, n, read); one admitted that covers an unwritten byte raises UninitialisedRead(ea,
n); a store not admitted raises MemoryFault(ea, n, write). Nothing but the status changes: no byte
is written. [R55, R58, R59, R260, R341, R344] -/
def Obligations.LoadAndStoreFaults : Prop :=
  ∀ (s : State) (dst src : Reg) (offset : BitVec 16) (imm : Half) (base v : Word),
    let ea : Word := base + offset.signExtend 64
    let bad (f : FaultInfo) : StepOutcome := .next { s with status := .faulted f }
    let outside (n : Nat) (o : StepOutcome) : Prop :=
      s.admits ea n .read = false → o = bad (.memoryFault ea n .read)
    let unset (n : Nat) (o : StepOutcome) : Prop :=
      s.admits ea n .read = true → Memory.readBytes s.mem ea.toNat n = none →
        o = bad (.uninitialisedRead ea n)
    let blocked (n : Nat) (o : StepOutcome) : Prop :=
      s.admits ea n .write = false → o = bad (.memoryFault ea n .write)
    (s.regs.get src = .value base →
      outside 4 (exec (.ldxw dst src offset) s) ∧ unset 4 (exec (.ldxw dst src offset) s) ∧
      outside 2 (exec (.ldxh dst src offset) s) ∧ unset 2 (exec (.ldxh dst src offset) s) ∧
      outside 1 (exec (.ldxb dst src offset) s) ∧ unset 1 (exec (.ldxb dst src offset) s) ∧
      outside 8 (exec (.ldxdw dst src offset) s) ∧ unset 8 (exec (.ldxdw dst src offset) s)) ∧
    (s.regs.get dst = .value base →
      blocked 4 (exec (.stw dst offset imm) s) ∧
      blocked 2 (exec (.sth dst offset imm) s) ∧
      blocked 1 (exec (.stb dst offset imm) s) ∧
      blocked 8 (exec (.stdw dst offset imm) s)) ∧
    (s.regs.get dst = .value base → s.regs.get src = .value v →
      blocked 4 (exec (.stxw dst src offset) s) ∧
      blocked 2 (exec (.stxh dst src offset) s) ∧
      blocked 1 (exec (.stxb dst src offset) s) ∧
      blocked 8 (exec (.stxdw dst src offset) s))

/-- For 4 and 8 bytes and any function f from the old value to a new value or to no write: when the
access is admitted for an atomic (one region readable and writable holds it, aligned to its size)
and its bytes hold values, the primitive hands on the old value and a state that differs from the
one before at most in those bytes, which hold f of the old value where that is a value and are
untouched otherwise; when it is not admitted, or misaligned under either policy, it raises
MemoryFault(ea, n, atomic). It is part of one step, so no other access falls between the read and
the write. [R63] -/
def Obligations.AtomicPrimitiveRule : Prop :=
  ∀ (s : State) (ea : Word) (n : Nat) (f : Word → Option Word) (k : State → Word → StepOutcome),
    n = 4 ∨ n = 8 →
    (∀ bs : List Byte, s.admits ea n .atomic = true →
      Memory.readBytes s.mem ea.toNat n = some bs →
      let old : Word := bytesToWord s.cfg.endian bs
      (f old = none → atomicRmw s ea n f k = k s old) ∧
      (∀ v : Word, f old = some v →
        ∃ t : State, atomicRmw s ea n f k = k t old ∧ t = { s with mem := t.mem } ∧
          Memory.readBytes t.mem ea.toNat n = some (wordToBytes s.cfg.endian n v) ∧
          ∀ x : Nat, x < ea.toNat ∨ ea.toNat + n ≤ x →
            Memory.read t.mem x = Memory.read s.mem x)) ∧
    (s.admits ea n .atomic = false →
      atomicRmw s ea n f k = .next { s with status := .faulted (.memoryFault ea n .atomic) }) ∧
    (ea.toNat % n ≠ 0 → s.admits ea n .atomic = false)

/-- For every state in which dst holds a base, src a value, the access is admitted for an atomic and
its bytes hold values: memory at base + offset becomes old + src, old | src, old & src or old ^ src
at the operation's width (only the low half of src for 32 bits), every other byte reads as before,
pc moves by one slot, and no register or anything else changes. [R63, R280, R281, R283, R285, R287,
R291, R293, R295, R297] -/
def Obligations.PlainAtomicResults : Prop :=
  ∀ (s : State) (dst src : Reg) (offset : BitVec 16) (base v : Word) (bs : List Byte),
    s.regs.get dst = .value base → s.regs.get src = .value v →
    let ea : Word := base + offset.signExtend 64
    let old : Word := bytesToWord s.cfg.endian bs
    let old32 : Half := old.setWidth 32
    let v32 : Half := v.setWidth 32
    let ready (n : Nat) : Prop :=
      s.admits ea n .atomic = true ∧ Memory.readBytes s.mem ea.toNat n = some bs
    let done (n : Nat) (new : Word) (o : StepOutcome) : Prop :=
      ∃ t : State, o = .next t ∧ t = { s with mem := t.mem, pc := s.pc + 1 } ∧
        Memory.readBytes t.mem ea.toNat n = some (wordToBytes s.cfg.endian n new) ∧
        ∀ x : Nat, x < ea.toNat ∨ ea.toNat + n ≤ x → Memory.read t.mem x = Memory.read s.mem x
    (ready 4 →
      done 4 ((old32 + v32).setWidth 64) (exec (.atomicAdd32 dst src offset) s) ∧
      done 4 ((old32 ||| v32).setWidth 64) (exec (.atomicOr32 dst src offset) s) ∧
      done 4 ((old32 &&& v32).setWidth 64) (exec (.atomicAnd32 dst src offset) s) ∧
      done 4 ((old32 ^^^ v32).setWidth 64) (exec (.atomicXor32 dst src offset) s)) ∧
    (ready 8 →
      done 8 (old + v) (exec (.atomicAdd64 dst src offset) s) ∧
      done 8 (old ||| v) (exec (.atomicOr64 dst src offset) s) ∧
      done 8 (old &&& v) (exec (.atomicAnd64 dst src offset) s) ∧
      done 8 (old ^^^ v) (exec (.atomicXor64 dst src offset) s))

/-- As the atomics without BPF_FETCH, for add, or, and, xor and exchange in both widths, and src
receives the old memory value, zero-extended; no other register changes. (A src of R10 does not
decode, by R22; that its write is then discarded is the model's choice, log 18, DESIGN CHOICE.)
[R63, R280, R282, R284, R286, R288, R289, R292, R294, R296, R298, R299] -/
def Obligations.FetchingAtomicResults : Prop :=
  ∀ (s : State) (dst src : Reg) (offset : BitVec 16) (base v : Word) (bs : List Byte),
    s.regs.get dst = .value base → s.regs.get src = .value v →
    let ea : Word := base + offset.signExtend 64
    let old : Word := bytesToWord s.cfg.endian bs
    let old32 : Half := old.setWidth 32
    let v32 : Half := v.setWidth 32
    let ready (n : Nat) : Prop :=
      s.admits ea n .atomic = true ∧ Memory.readBytes s.mem ea.toNat n = some bs
    let done (n : Nat) (new : Word) (o : StepOutcome) : Prop :=
      ∃ t : State, o = .next t ∧ t = { s with regs := s.regs.set src (.value old), mem := t.mem, pc := s.pc + 1 } ∧
        Memory.readBytes t.mem ea.toNat n = some (wordToBytes s.cfg.endian n new) ∧
        ∀ x : Nat, x < ea.toNat ∨ ea.toNat + n ≤ x → Memory.read t.mem x = Memory.read s.mem x
    (ready 4 →
      done 4 ((old32 + v32).setWidth 64) (exec (.atomicFetchAdd32 dst src offset) s) ∧
      done 4 ((old32 ||| v32).setWidth 64) (exec (.atomicFetchOr32 dst src offset) s) ∧
      done 4 ((old32 &&& v32).setWidth 64) (exec (.atomicFetchAnd32 dst src offset) s) ∧
      done 4 ((old32 ^^^ v32).setWidth 64) (exec (.atomicFetchXor32 dst src offset) s) ∧
      done 4 v (exec (.atomicXchg32 dst src offset) s)) ∧
    (ready 8 →
      done 8 (old + v) (exec (.atomicFetchAdd64 dst src offset) s) ∧
      done 8 (old ||| v) (exec (.atomicFetchOr64 dst src offset) s) ∧
      done 8 (old &&& v) (exec (.atomicFetchAnd64 dst src offset) s) ∧
      done 8 (old ^^^ v) (exec (.atomicFetchXor64 dst src offset) s) ∧
      done 8 v (exec (.atomicXchg64 dst src offset) s))

/-- For every state in which dst, src and R0 hold values, the access is admitted for an atomic and
its bytes hold values: when the old value equals R0 (its low half for 32 bits) memory becomes src
(its low half), otherwise memory is unchanged; R0 receives the old value, zero-extended, in both
cases; every other byte and register, and everything else, is unchanged, and pc moves by one slot.
src and dst may be R0. [R63, R72, R280, R290, R300] -/
def Obligations.CompareExchangeResults : Prop :=
  ∀ (s : State) (dst src : Reg) (offset : BitVec 16) (base v expected : Word) (bs : List Byte),
    s.regs.get dst = .value base → s.regs.get src = .value v → s.regs.get .r0 = .value expected →
    let ea : Word := base + offset.signExtend 64
    let old : Word := bytesToWord s.cfg.endian bs
    let ready (n : Nat) : Prop :=
      s.admits ea n .atomic = true ∧ Memory.readBytes s.mem ea.toNat n = some bs
    let done (n : Nat) (o : StepOutcome) : Prop :=
      ∃ t : State, o = .next t ∧
        t = { s with regs := s.regs.set .r0 (.value old), mem := t.mem, pc := s.pc + 1 } ∧
        Memory.readBytes t.mem ea.toNat n = some (wordToBytes s.cfg.endian n v) ∧
        ∀ x : Nat, x < ea.toNat ∨ ea.toNat + n ≤ x → Memory.read t.mem x = Memory.read s.mem x
    let untouched : StepOutcome :=
      .next { s with regs := s.regs.set .r0 (.value old), pc := s.pc + 1 }
    (ready 4 →
      (old = (expected.setWidth 32).setWidth 64 → done 4 (exec (.atomicCmpxchg32 dst src offset) s)) ∧
      (old ≠ (expected.setWidth 32).setWidth 64 →
        exec (.atomicCmpxchg32 dst src offset) s = untouched)) ∧
    (ready 8 →
      (old = expected → done 8 (exec (.atomicCmpxchg64 dst src offset) s)) ∧
      (old ≠ expected → exec (.atomicCmpxchg64 dst src offset) s = untouched))

/-- For every state in which dst and src hold values and for the eighteen atomics other than compare
and exchange, and where R0 holds a value too for the two compare and exchange: an access that is not
admitted for an atomic (which includes every misaligned one, under either alignment policy) raises
MemoryFault(ea, n, atomic), and an admitted one that covers an unwritten byte raises
UninitialisedRead(ea, n); neither memory nor a register changes. [R55, R58, R59, R63, R280, R345] -/
def Obligations.AtomicFaults : Prop :=
  ∀ (s : State) (dst src : Reg) (offset : BitVec 16) (base v : Word),
    s.regs.get dst = .value base → s.regs.get src = .value v →
    let ea : Word := base + offset.signExtend 64
    let faults (n : Nat) (o : StepOutcome) : Prop :=
      (s.admits ea n .atomic = false →
        o = .next { s with status := .faulted (.memoryFault ea n .atomic) }) ∧
      (s.admits ea n .atomic = true → Memory.readBytes s.mem ea.toNat n = none →
        o = .next { s with status := .faulted (.uninitialisedRead ea n) })
    (ea.toNat % 4 ≠ 0 → s.admits ea 4 .atomic = false) ∧
    (ea.toNat % 8 ≠ 0 → s.admits ea 8 .atomic = false) ∧
    faults 4 (exec (.atomicAdd32 dst src offset) s) ∧
    faults 4 (exec (.atomicFetchAdd32 dst src offset) s) ∧
    faults 4 (exec (.atomicOr32 dst src offset) s) ∧
    faults 4 (exec (.atomicFetchOr32 dst src offset) s) ∧
    faults 4 (exec (.atomicAnd32 dst src offset) s) ∧
    faults 4 (exec (.atomicFetchAnd32 dst src offset) s) ∧
    faults 4 (exec (.atomicXor32 dst src offset) s) ∧
    faults 4 (exec (.atomicFetchXor32 dst src offset) s) ∧
    faults 4 (exec (.atomicXchg32 dst src offset) s) ∧
    faults 8 (exec (.atomicAdd64 dst src offset) s) ∧
    faults 8 (exec (.atomicFetchAdd64 dst src offset) s) ∧
    faults 8 (exec (.atomicOr64 dst src offset) s) ∧
    faults 8 (exec (.atomicFetchOr64 dst src offset) s) ∧
    faults 8 (exec (.atomicAnd64 dst src offset) s) ∧
    faults 8 (exec (.atomicFetchAnd64 dst src offset) s) ∧
    faults 8 (exec (.atomicXor64 dst src offset) s) ∧
    faults 8 (exec (.atomicFetchXor64 dst src offset) s) ∧
    faults 8 (exec (.atomicXchg64 dst src offset) s) ∧
    (∀ expected : Word, s.regs.get .r0 = .value expected →
      faults 4 (exec (.atomicCmpxchg32 dst src offset) s) ∧
      faults 8 (exec (.atomicCmpxchg64 dst src offset) s))

/-- For every state, LDDW answers the next state in which dst holds next_imm * 2^32 + imm on the raw
fields, pc has moved by two slots, and nothing else has changed; dst is not read. The constant is
R88's; that it goes to dst, that dst is not read, the two slots and the rest of the frame are R310's
and R311's. That a dst of R10, which by R311 does not decode, discards the constant is the model's
choice (log 18, DESIGN CHOICE). [R88, R310, R311] -/
def Obligations.LoadConstantResult : Prop :=
  ∀ (s : State) (dst : Reg) (imm nextImm : Half),
    exec (.lddw dst imm nextImm) s =
      .next { s with
        regs := s.regs.set dst (.value (BitVec.ofNat 64 (nextImm.toNat * 2 ^ 32 + imm.toNat)))
        pc := s.pc + 2 }

/-- Where the platform has the feature and its function an answer: LD_MAP_FD and LD_VAR_ADDR look up
the signed imm, LD_MAP_IDX the unsigned imm, LD_CODE_ADDR the slot of the instruction and the signed
imm, and the two map-value forms add the zero-extended next_imm to mva of the map, modulo 2^64; dst
receives the value, pc moves by two slots, and nothing else changes. (That platform functions are
finite tables is the model's, log 14; that a dst of R10, which does not decode, discards the value
is log 18.) [R310, R312, R313, R314, R315, R316, R317, R318] -/
def Obligations.PlatformLoadResults : Prop :=
  ∀ (s : State) (dst : Reg) (imm nextImm : Half) (m v : Word),
    let out (v : Word) : StepOutcome :=
      .next { s with regs := s.regs.set dst (.value v), pc := s.pc + 2 }
    (s.cfg.hasMaps = true → s.cfg.mapByFd.lookup imm.toInt = some v →
      exec (.ldMapFd dst imm) s = out (v)) ∧
    (s.cfg.hasMaps = true → s.cfg.mapByIdx.lookup imm.toNat = some v →
      exec (.ldMapIdx dst imm) s = out (v)) ∧
    (s.cfg.hasVariables = true → s.cfg.variableAddr.lookup imm.toInt = some v →
      exec (.ldVarAddr dst imm) s = out (v)) ∧
    (s.cfg.hasMaps = true → s.cfg.mapByFd.lookup imm.toInt = some m →
      s.cfg.mva.lookup m = some v →
      exec (.ldMapValueFd dst imm nextImm) s = out (v + nextImm.setWidth 64)) ∧
    (s.cfg.hasMaps = true → s.cfg.mapByIdx.lookup imm.toNat = some m →
      s.cfg.mva.lookup m = some v →
      exec (.ldMapValueIdx dst imm nextImm) s = out (v + nextImm.setWidth 64)) ∧
    (∀ (table : List CodeAddrEntry) (e : CodeAddrEntry), s.cfg.codeAddr = some table →
      table.find? (fun e => decide (e.pc = s.pc) && decide (e.offset = imm.toInt)) = some e →
      exec (.ldCodeAddr dst imm) s = out e.addr)

/-- Without maps, variables or code addresses the instruction raises UnsupportedFeature of its sub-
opcode; with them, a function without an answer (no such fd, index or id; a map with no single
contiguous region; no code address there) raises BadPlatformReference(sub-opcode, imm). Nothing but
the status changes. (That the imm recorded is signed, for the index forms 5 and 6 too, is read from
R341 and R82: log 17, DEDUCED. That platform functions are finite tables is the model's choice, log
14.) [R312, R313, R314, R315, R316, R317, R318, R341, R344] -/
def Obligations.PlatformLoadFaults : Prop :=
  ∀ (s : State) (dst : Reg) (imm nextImm : Half) (m : Word),
    let unsupported (n : Nat) : StepOutcome :=
      .next { s with status := .faulted (.unsupportedFeature n) }
    let noAnswer (n : Nat) : StepOutcome :=
      .next { s with status := .faulted (.badPlatformReference n imm.toInt) }
    (s.cfg.hasMaps = false →
      exec (.ldMapFd dst imm) s = unsupported 1 ∧
      exec (.ldMapValueFd dst imm nextImm) s = unsupported 2 ∧
      exec (.ldMapIdx dst imm) s = unsupported 5 ∧
      exec (.ldMapValueIdx dst imm nextImm) s = unsupported 6) ∧
    (s.cfg.hasVariables = false → exec (.ldVarAddr dst imm) s = unsupported 3) ∧
    (s.cfg.codeAddr = none → exec (.ldCodeAddr dst imm) s = unsupported 4) ∧
    (s.cfg.hasMaps = true →
      (s.cfg.mapByFd.lookup imm.toInt = none →
        exec (.ldMapFd dst imm) s = noAnswer 1 ∧
        exec (.ldMapValueFd dst imm nextImm) s = noAnswer 2) ∧
      (s.cfg.mapByFd.lookup imm.toInt = some m → s.cfg.mva.lookup m = none →
        exec (.ldMapValueFd dst imm nextImm) s = noAnswer 2) ∧
      (s.cfg.mapByIdx.lookup imm.toNat = none →
        exec (.ldMapIdx dst imm) s = noAnswer 5 ∧
        exec (.ldMapValueIdx dst imm nextImm) s = noAnswer 6) ∧
      (s.cfg.mapByIdx.lookup imm.toNat = some m → s.cfg.mva.lookup m = none →
        exec (.ldMapValueIdx dst imm nextImm) s = noAnswer 6)) ∧
    (s.cfg.hasVariables = true → s.cfg.variableAddr.lookup imm.toInt = none →
      exec (.ldVarAddr dst imm) s = noAnswer 3) ∧
    (∀ table : List CodeAddrEntry, s.cfg.codeAddr = some table →
      table.find? (fun e => decide (e.pc = s.pc) && decide (e.offset = imm.toInt)) = none →
      exec (.ldCodeAddr dst imm) s = noAnswer 4)

/-- For every state whose platform supplies the legacy instructions, each of the eight takes the
answer of that platform function for its own five fields and the whole machine state (the tuple of
R40): an answer that is a next state replaces registers, pc, call stack, memory (by the answer's
edits), regions and, where the program ends, the status; an answer that is a fault is raised with
everything else unchanged. Where the function lists a line for these fields and this state, that
line is the answer. (The shape of an answer, and that the function is its listed lines and a free
value elsewhere, are the model's choice, log 8.) [R325, R326, R327, R328, R329, R330, R331, R332,
R333, R375] -/
def Obligations.LegacyAccessTakesThePlatformsAnswer : Prop :=
  ∀ (s : State) (dst src : BitVec 4) (offset : BitVec 16) (imm : Half) (fn : LegacyFunction),
    s.cfg.legacyPacket = some fn →
    let takes (opcode : BitVec 8) (o : StepOutcome) : Prop :=
      let fields : LegacyFields := ⟨opcode, dst, src, offset, imm⟩
      let machine : ArchState := ⟨s.regs, s.pc, s.frames, s.status, s.mem, s.regions⟩
      (∀ (regs : RegFile) (pc : Nat) (frames : List Frame) (exitValue : Option Word)
          (edits : List MemEdit) (regions : List Region),
        legacyAnswer fn fields machine = .next regs pc frames exitValue edits regions →
        o = .next { s with
          regs := regs, pc := pc, frames := frames
          status := match exitValue with
            | some v => .exited v
            | none => .running
          mem := Memory.editAll s.mem edits, grantedRegions := regions }) ∧
      (∀ f : FaultInfo, legacyAnswer fn fields machine = .fault f →
        o = .next { s with status := .faulted f }) ∧
      (∀ c : LegacyCase,
        fn.cases.find? (fun c => decide (c.fields = fields) && decide (c.arch = machine)) = some c →
        legacyAnswer fn fields machine = c.answer)
    takes 0x20 (exec (.ldAbsW dst src offset imm) s) ∧
    takes 0x28 (exec (.ldAbsH dst src offset imm) s) ∧
    takes 0x30 (exec (.ldAbsB dst src offset imm) s) ∧
    takes 0x38 (exec (.ldAbsDw dst src offset imm) s) ∧
    takes 0x40 (exec (.ldIndW dst src offset imm) s) ∧
    takes 0x48 (exec (.ldIndH dst src offset imm) s) ∧
    takes 0x50 (exec (.ldIndB dst src offset imm) s) ∧
    takes 0x58 (exec (.ldIndDw dst src offset imm) s)

/-- For every state whose platform does not supply the legacy instructions, each of the eight,
whatever its fields, raises IllegalInstruction(pc, LegacyPacketUnsupported) and changes nothing
else. (That the refusal stands in the meaning and not in the decoder is the model's, log 16; the
step is the same.) [R325, R326, R327, R328, R329, R330, R331, R332, R333, R341] -/
def Obligations.LegacyAccessIsRefusedByDefault : Prop :=
  ∀ (s : State) (dst src : BitVec 4) (offset : BitVec 16) (imm : Half), s.cfg.legacyPacket = none →
    let refused : StepOutcome :=
      .next { s with status := .faulted (.illegalInstruction s.pc .legacyPacketUnsupported) }
    exec (.ldAbsW dst src offset imm) s = refused ∧
    exec (.ldAbsH dst src offset imm) s = refused ∧
    exec (.ldAbsB dst src offset imm) s = refused ∧
    exec (.ldAbsDw dst src offset imm) s = refused ∧
    exec (.ldIndW dst src offset imm) s = refused ∧
    exec (.ldIndH dst src offset imm) s = refused ∧
    exec (.ldIndB dst src offset imm) s = refused ∧
    exec (.ldIndDw dst src offset imm) s = refused

/-- For every platform, program and contents of the platform's memory: at entry R0 and R6 to R9 are
unwritten, R1 to R5 hold the entry arguments where defined, R10 is cfg.frame_top, pc is 0, the call
stack is empty, the status is Running, the regions are the stack frame of depth 0 and cfg.regions,
every byte of that frame is unwritten and every other byte is as the platform gives it. It says the
rows of R39's table one by one. (That the frame among the regions is computed from R10 is the
model's, log 12.) [R39, R40] -/
def Obligations.EntryState : Prop :=
  ∀ (c : Config) (prog : List Slot) (mem : Memory),
    let s := State.entry c prog mem
    s.regs.get .r0 = .unwritten ∧
    s.regs.get .r1 = c.entryArgs.r1 ∧ s.regs.get .r2 = c.entryArgs.r2 ∧
    s.regs.get .r3 = c.entryArgs.r3 ∧ s.regs.get .r4 = c.entryArgs.r4 ∧
    s.regs.get .r5 = c.entryArgs.r5 ∧
    s.regs.get .r6 = .unwritten ∧ s.regs.get .r7 = .unwritten ∧ s.regs.get .r8 = .unwritten ∧
    s.regs.get .r9 = .unwritten ∧ s.regs.get .r10 = .value c.frameTop ∧
    s.pc = 0 ∧ s.frames = [] ∧ s.status = .running ∧
    s.regions =
      { base := c.frameTop - c.stackSize, size := c.stackSize, readable := true, writable := true,
        shared := false } :: c.regions ∧
    ∀ x : Nat, Memory.read s.mem x =
      if (c.frameTop - c.stackSize).toNat ≤ x ∧ x < (c.frameTop - c.stackSize).toNat + c.stackSize.toNat
      then none else Memory.read mem x

/-- The model's choice (logs 1, 2 and 4): State.reset is program entry with no program and empty
memory on the platform of the spec's own examples, but that R0 and R6 to R9, unwritten at entry,
hold 0; so every register holds a value at reset, R10 is 0x10000, and that platform meets the
conditions the spec puts on one. Its first step finds no program: PcOutOfRange(0), with one turn of
other agents taken (log 9). [R39, R370, 00_scope.md R5, 45_call_exit.md R253] -/
def Obligations.ResetState : Prop :=
  State.reset =
      { State.entry Config.default [] [] with
        regs :=
          { entryRegs Config.default with
            r0 := .value 0, r6 := .value 0, r7 := .value 0, r8 := .value 0, r9 := .value 0 } } ∧
    (∀ r : Reg, r ≠ .r10 → State.reset.regs.get r = .value 0) ∧
    State.reset.regs.get .r10 = .value 0x10000 ∧ Config.default.valid = true ∧
    step State.reset =
      .next { State.reset with
        status := .faulted (.pcOutOfRange 0), agentWrites := State.reset.agentWrites.tail,
        turns := State.reset.turns + 1 }

/-- For every platform and byte string: a length that is not a multiple of 8 is refused; so is a
program of more slots than cfg.MAX_INSNS where the platform sets it; otherwise loading gives the
entry state of a program of length / 8 slots whose slot k holds bytes 8k to 8k + 7. An empty program
is not refused. [R80, R341, R370, R371] -/
def Obligations.LoadingRefusals : Prop :=
  ∀ (c : Config) (bytes : List Byte) (mem : Memory),
    (bytes.length % 8 ≠ 0 → loadProgram c bytes mem = .error .notWholeSlots) ∧
    (bytes.length % 8 = 0 →
      (∀ m : Nat, c.maxInsns = some m → m < bytes.length / 8 →
        loadProgram c bytes mem = .error .tooManySlots) ∧
      ((∀ m : Nat, c.maxInsns = some m → bytes.length / 8 ≤ m) →
        ∃ prog : List Slot, loadProgram c bytes mem = .ok (State.entry c prog mem) ∧
          prog.flatMap (fun w => [w.b0, w.b1, w.b2, w.b3, w.b4, w.b5, w.b6, w.b7]) = bytes))

end
end

