-- ==== Sys2Proof/Laws/Memory.lean ====
section
/-! SUPPORT. The laws of data memory: every operation keeps the canonical form, a read gives what was
last written, and a write leaves every other byte alone (`20_memory.md` R51, R57, R58; log 6). -/

namespace Sys2Proof.Machine

open Sys2Proof

/-! ### The canonical form -/

theorem Memory.wf_cons (c : Host.Cell) (m : Memory) :
    Memory.wf (c :: m) = true ↔ c.1 < 2 ^ 64 ∧ (∀ d ∈ m, c.1 < d.1) ∧ Memory.wf m = true := by
  simp [Memory.wf, and_assoc]

theorem Memory.write_addr (m : Memory) (a : Nat) (b : Byte) (d : Host.Cell)
    (h : d ∈ Memory.write m a b) : d = (a, b) ∨ d ∈ m := by
  induction m with
  | nil => simpa [Memory.write] using h
  | cons c cs ih =>
    simp only [Memory.write] at h
    split at h
    · simpa using h
    · split at h
      · rcases List.mem_cons.1 h with h | h
        · exact .inl h
        · exact .inr (List.mem_cons_of_mem _ h)
      · rcases List.mem_cons.1 h with h | h
        · exact .inr (h ▸ List.mem_cons_self)
        · exact (ih h).imp_right (List.mem_cons_of_mem _)

theorem Memory.write_wf (m : Memory) (a : Nat) (b : Byte) (ha : a < 2 ^ 64) (h : Memory.wf m = true) :
    Memory.wf (Memory.write m a b) = true := by
  induction m with
  | nil => simpa [Memory.write, Memory.wf] using ha
  | cons c cs ih =>
    obtain ⟨hc, hd, hw⟩ := (Memory.wf_cons c cs).1 h
    simp only [Memory.write]
    split
    · refine (Memory.wf_cons _ _).2 ⟨ha, fun d hm => ?_, h⟩
      rcases List.mem_cons.1 hm with rfl | hm
      · assumption
      · exact lt_trans ‹_› (hd d hm)
    · split
      · subst a
        exact (Memory.wf_cons _ _).2 ⟨ha, hd, hw⟩
      · refine (Memory.wf_cons _ _).2 ⟨hc, fun d hm => ?_, ih hw⟩
        rcases Memory.write_addr cs a b d hm with rfl | hm
        · simp only; omega
        · exact hd d hm

theorem Memory.forget_wf (m : Memory) (a n : Nat) (h : Memory.wf m = true) :
    Memory.wf (Memory.forget m a n) = true := by
  unfold Memory.forget
  induction m with
  | nil => rfl
  | cons c cs ih =>
    obtain ⟨hc, hd, hw⟩ := (Memory.wf_cons c cs).1 h
    simp only [List.filter_cons]
    split
    · exact (Memory.wf_cons _ _).2 ⟨hc, fun d hm => hd d (List.mem_filter.1 hm).1, ih hw⟩
    · exact ih hw

theorem Memory.edit_wf (m : Memory) (e : MemEdit) (h : Memory.wf m = true) :
    Memory.wf (Memory.edit m e) = true := by
  unfold Memory.edit
  split
  · exact Memory.write_wf m _ _ e.addr.isLt h
  · exact Memory.forget_wf m _ _ h

theorem Memory.editAll_wf (m : Memory) (es : List MemEdit) (h : Memory.wf m = true) :
    Memory.wf (Memory.editAll m es) = true := by
  unfold Memory.editAll
  induction es generalizing m with
  | nil => exact h
  | cons e es ih => exact ih _ (Memory.edit_wf m e h)

theorem Memory.writeBytes_wf (m : Memory) (a : Nat) (bs : List Byte) (ha : a + bs.length ≤ 2 ^ 64)
    (h : Memory.wf m = true) : Memory.wf (Memory.writeBytes m a bs) = true := by
  induction bs generalizing m a with
  | nil => exact h
  | cons b bs ih =>
    simp only [List.length_cons] at ha
    exact ih _ _ (by omega) (Memory.write_wf m a b (by omega) h)

/-! ### Reading and writing -/

@[simp] theorem Memory.read_nil (a : Nat) : Memory.read [] a = none := rfl

theorem Memory.read_write_same (m : Memory) (a : Nat) (b : Byte) :
    Memory.read (Memory.write m a b) a = some b := by
  induction m with
  | nil => simp [Memory.write, Memory.read]
  | cons c cs ih =>
    simp only [Memory.write]
    split
    · simp [Memory.read]
    · split
      · simp [Memory.read]
      · simp only [Memory.read]
        rw [if_neg (by omega)]
        exact ih

theorem Memory.read_write_other (m : Memory) (a x : Nat) (b : Byte) (hx : x ≠ a) :
    Memory.read (Memory.write m a b) x = Memory.read m x := by
  induction m with
  | nil => simp [Memory.write, Memory.read, Ne.symm hx]
  | cons c cs ih =>
    simp only [Memory.write]
    split
    · simp [Memory.read, Ne.symm hx]
    · split
      · subst a
        simp [Memory.read, Ne.symm hx]
      · simp only [Memory.read, ih]

theorem Memory.read_writeBytes_other (m : Memory) (a x : Nat) (bs : List Byte)
    (hx : x < a ∨ a + bs.length ≤ x) :
    Memory.read (Memory.writeBytes m a bs) x = Memory.read m x := by
  induction bs generalizing m a with
  | nil => rfl
  | cons b bs ih =>
    simp only [List.length_cons] at hx
    simp only [Memory.writeBytes]
    rw [ih _ _ (by omega), Memory.read_write_other m a x b (by omega)]

theorem Memory.readBytes_writeBytes (m : Memory) (a : Nat) (bs : List Byte) :
    Memory.readBytes (Memory.writeBytes m a bs) a bs.length = some bs := by
  induction bs generalizing m a with
  | nil => rfl
  | cons b bs ih =>
    simp only [Memory.writeBytes, List.length_cons, Memory.readBytes]
    rw [Memory.read_writeBytes_other _ _ _ _ (by omega), Memory.read_write_same, ih]

theorem Memory.read_forget_outside (m : Memory) (a n x : Nat) (hx : x < a ∨ a + n ≤ x) :
    Memory.read (Memory.forget m a n) x = Memory.read m x := by
  unfold Memory.forget
  induction m with
  | nil => rfl
  | cons c cs ih =>
    simp only [List.filter_cons]
    split
    · simp only [Memory.read, ih]
    · rw [ih]
      simp only [Memory.read]
      rw [if_neg]
      rintro rfl
      simp_all

theorem Memory.read_forget_inside (m : Memory) (a n x : Nat) (h1 : a ≤ x) (h2 : x < a + n) :
    Memory.read (Memory.forget m a n) x = none := by
  unfold Memory.forget
  induction m with
  | nil => rfl
  | cons c cs ih =>
    simp only [List.filter_cons]
    split
    · simp only [Memory.read, ih]
      rw [if_neg]
      rintro rfl
      simp_all
    · exact ih

/-! ### Bytes -/

@[simp] theorem littleBytes_length (n : Nat) (v : Word) : (littleBytes n v).length = n := by
  induction n generalizing v with
  | zero => rfl
  | succ n ih => simp [littleBytes, ih]

@[simp] theorem wordToBytes_length (e : Endian) (n : Nat) (v : Word) : (wordToBytes e n v).length = n := by
  cases e <;> simp [wordToBytes]

theorem littleValue_lt (bs : List Byte) : littleValue bs < 256 ^ bs.length := by
  induction bs with
  | nil => simp [littleValue]
  | cons b bs ih =>
    have := b.isLt
    simp only [littleValue, List.length_cons, pow_succ]
    omega

/-! ### Admission -/

/-- An admitted access does not wrap past 2^64 (R55). -/
theorem State.admits_fits (s : State) (ea : Word) (n : Nat) (kind : AccessKind)
    (h : s.admits ea n kind = true) : ea.toNat + n ≤ 2 ^ 64 := by
  simp only [State.admits, Bool.and_eq_true, List.any_eq_true] at h
  obtain ⟨⟨r, _, hr⟩, _⟩ := h
  simp only [covers, Bool.and_eq_true, decide_eq_true_eq] at hr
  omega

/-! ### Other agents' writes -/

theorem State.agentMemory_nil (s : State) : s.agentMemory [] = s.mem := rfl

/-- Other agents' writes keep memory canonical. -/
theorem State.agentMemory_wf (s : State) (ws : List AgentWrite) (h : Memory.wf s.mem = true) :
    Memory.wf (s.agentMemory ws) = true := by
  unfold State.agentMemory
  generalize s.mem = m at h
  induction ws generalizing m with
  | nil => exact h
  | cons w ws ih =>
    refine ih _ ?_
    beta_reduce
    split
    · exact Memory.write_wf _ _ _ w.addr.isLt h
    · exact h

/-- Other agents' writes leave every byte outside the shared regions alone (R62). -/
theorem State.read_agentMemory_private (s : State) (ws : List AgentWrite) (x : Word)
    (hx : s.sharedByte x = false) :
    Memory.read (s.agentMemory ws) x.toNat = Memory.read s.mem x.toNat := by
  unfold State.agentMemory
  generalize s.mem = m
  induction ws generalizing m with
  | nil => rfl
  | cons w ws ih =>
    rw [List.foldl_cons, ih]
    split
    · refine Memory.read_write_other _ _ _ _ fun he => ?_
      rw [BitVec.eq_of_toNat_eq he] at hx
      simp_all
    · rfl

/-- Another agent can put any byte anywhere in a shared region (R62, R70). -/
theorem State.read_agentMemory_shared (s : State) (x : Word) (b : Byte) (hx : s.sharedByte x = true) :
    Memory.read (s.agentMemory [⟨x, b⟩]) x.toNat = some b := by
  simp [State.agentMemory, hx, Memory.read_write_same]

end Sys2Proof.Machine
end

