-- ==== Sys2Proof/Laws/State.lean ====
section
/-! SUPPORT. What each update of the state leaves in each field, and the laws of the register file
(`10_state.md` R22, R27), so that no later proof unfolds a record update. -/

namespace Sys2Proof.Machine

open Sys2Proof

/-! ### `State.advance` -/

@[simp] theorem State.advance_regs (s : State) : s.advance.regs = s.regs := rfl
@[simp] theorem State.advance_pc (s : State) : s.advance.pc = s.pc + 1 := rfl
@[simp] theorem State.advance_frames (s : State) : s.advance.frames = s.frames := rfl
@[simp] theorem State.advance_status (s : State) : s.advance.status = s.status := rfl
@[simp] theorem State.advance_mem (s : State) : s.advance.mem = s.mem := rfl
@[simp] theorem State.advance_grantedRegions (s : State) : s.advance.grantedRegions = s.grantedRegions := rfl
@[simp] theorem State.advance_cfg (s : State) : s.advance.cfg = s.cfg := rfl
@[simp] theorem State.advance_prog (s : State) : s.advance.prog = s.prog := rfl
@[simp] theorem State.advance_choices (s : State) : s.advance.choices = s.choices := rfl
@[simp] theorem State.advance_agentWrites (s : State) : s.advance.agentWrites = s.agentWrites := rfl
@[simp] theorem State.advance_turns (s : State) : s.advance.turns = s.turns := rfl

/-! ### `State.writeBack` -/

@[simp] theorem State.writeBack_regs (s : State) (r : Reg) (v : Word) : (s.writeBack r v).regs = s.regs.set r (.value v) := rfl
@[simp] theorem State.writeBack_pc (s : State) (r : Reg) (v : Word) : (s.writeBack r v).pc = s.pc + 1 := rfl
@[simp] theorem State.writeBack_frames (s : State) (r : Reg) (v : Word) : (s.writeBack r v).frames = s.frames := rfl
@[simp] theorem State.writeBack_status (s : State) (r : Reg) (v : Word) : (s.writeBack r v).status = s.status := rfl
@[simp] theorem State.writeBack_mem (s : State) (r : Reg) (v : Word) : (s.writeBack r v).mem = s.mem := rfl
@[simp] theorem State.writeBack_grantedRegions (s : State) (r : Reg) (v : Word) : (s.writeBack r v).grantedRegions = s.grantedRegions := rfl
@[simp] theorem State.writeBack_cfg (s : State) (r : Reg) (v : Word) : (s.writeBack r v).cfg = s.cfg := rfl
@[simp] theorem State.writeBack_prog (s : State) (r : Reg) (v : Word) : (s.writeBack r v).prog = s.prog := rfl
@[simp] theorem State.writeBack_choices (s : State) (r : Reg) (v : Word) : (s.writeBack r v).choices = s.choices := rfl
@[simp] theorem State.writeBack_agentWrites (s : State) (r : Reg) (v : Word) : (s.writeBack r v).agentWrites = s.agentWrites := rfl
@[simp] theorem State.writeBack_turns (s : State) (r : Reg) (v : Word) : (s.writeBack r v).turns = s.turns := rfl

/-! ### `State.writeBackWide` -/

@[simp] theorem State.writeBackWide_regs (s : State) (r : Reg) (v : Word) : (s.writeBackWide r v).regs = s.regs.set r (.value v) := rfl
@[simp] theorem State.writeBackWide_pc (s : State) (r : Reg) (v : Word) : (s.writeBackWide r v).pc = s.pc + 2 := rfl
@[simp] theorem State.writeBackWide_frames (s : State) (r : Reg) (v : Word) : (s.writeBackWide r v).frames = s.frames := rfl
@[simp] theorem State.writeBackWide_status (s : State) (r : Reg) (v : Word) : (s.writeBackWide r v).status = s.status := rfl
@[simp] theorem State.writeBackWide_mem (s : State) (r : Reg) (v : Word) : (s.writeBackWide r v).mem = s.mem := rfl
@[simp] theorem State.writeBackWide_grantedRegions (s : State) (r : Reg) (v : Word) : (s.writeBackWide r v).grantedRegions = s.grantedRegions := rfl
@[simp] theorem State.writeBackWide_cfg (s : State) (r : Reg) (v : Word) : (s.writeBackWide r v).cfg = s.cfg := rfl
@[simp] theorem State.writeBackWide_prog (s : State) (r : Reg) (v : Word) : (s.writeBackWide r v).prog = s.prog := rfl
@[simp] theorem State.writeBackWide_choices (s : State) (r : Reg) (v : Word) : (s.writeBackWide r v).choices = s.choices := rfl
@[simp] theorem State.writeBackWide_agentWrites (s : State) (r : Reg) (v : Word) : (s.writeBackWide r v).agentWrites = s.agentWrites := rfl
@[simp] theorem State.writeBackWide_turns (s : State) (r : Reg) (v : Word) : (s.writeBackWide r v).turns = s.turns := rfl

/-! ### `State.store` -/

@[simp] theorem State.store_regs (s : State) (ea : Word) (n : Nat) (v : Word) : (s.store ea n v).regs = s.regs := rfl
@[simp] theorem State.store_pc (s : State) (ea : Word) (n : Nat) (v : Word) : (s.store ea n v).pc = s.pc := rfl
@[simp] theorem State.store_frames (s : State) (ea : Word) (n : Nat) (v : Word) : (s.store ea n v).frames = s.frames := rfl
@[simp] theorem State.store_status (s : State) (ea : Word) (n : Nat) (v : Word) : (s.store ea n v).status = s.status := rfl
@[simp] theorem State.store_mem (s : State) (ea : Word) (n : Nat) (v : Word) : (s.store ea n v).mem = Memory.writeBytes s.mem ea.toNat (wordToBytes s.cfg.endian n v) := rfl
@[simp] theorem State.store_grantedRegions (s : State) (ea : Word) (n : Nat) (v : Word) : (s.store ea n v).grantedRegions = s.grantedRegions := rfl
@[simp] theorem State.store_cfg (s : State) (ea : Word) (n : Nat) (v : Word) : (s.store ea n v).cfg = s.cfg := rfl
@[simp] theorem State.store_prog (s : State) (ea : Word) (n : Nat) (v : Word) : (s.store ea n v).prog = s.prog := rfl
@[simp] theorem State.store_choices (s : State) (ea : Word) (n : Nat) (v : Word) : (s.store ea n v).choices = s.choices := rfl
@[simp] theorem State.store_agentWrites (s : State) (ea : Word) (n : Nat) (v : Word) : (s.store ea n v).agentWrites = s.agentWrites := rfl
@[simp] theorem State.store_turns (s : State) (ea : Word) (n : Nat) (v : Word) : (s.store ea n v).turns = s.turns := rfl

/-! ### `enterCallee` -/

@[simp] theorem enterCallee_regs (s : State) (target : Nat) :
    (enterCallee s target).regs = { calleeSavedRegs s with r0 := .unwritten, r10 := calleeFramePointer s } := rfl
@[simp] theorem enterCallee_pc (s : State) (target : Nat) :
    (enterCallee s target).pc = target := rfl
@[simp] theorem enterCallee_frames (s : State) (target : Nat) :
    (enterCallee s target).frames = callerFrame s :: s.frames := rfl
@[simp] theorem enterCallee_status (s : State) (target : Nat) :
    (enterCallee s target).status = s.status := rfl
@[simp] theorem enterCallee_mem (s : State) (target : Nat) :
    (enterCallee s target).mem = Memory.forget s.mem (s.cfg.frameRegion (calleeFramePointer s)).base.toNat s.cfg.stackSize.toNat := rfl
@[simp] theorem enterCallee_grantedRegions (s : State) (target : Nat) :
    (enterCallee s target).grantedRegions = s.grantedRegions := rfl
@[simp] theorem enterCallee_cfg (s : State) (target : Nat) :
    (enterCallee s target).cfg = s.cfg := rfl
@[simp] theorem enterCallee_prog (s : State) (target : Nat) :
    (enterCallee s target).prog = s.prog := rfl
@[simp] theorem enterCallee_choices (s : State) (target : Nat) :
    (enterCallee s target).choices = s.choices := rfl
@[simp] theorem enterCallee_agentWrites (s : State) (target : Nat) :
    (enterCallee s target).agentWrites = s.agentWrites := rfl
@[simp] theorem enterCallee_turns (s : State) (target : Nat) :
    (enterCallee s target).turns = s.turns := rfl

/-! ### `leaveCallee` -/

@[simp] theorem leaveCallee_regs (s : State) (f : Frame) (rest : List Frame) :
    (leaveCallee s f rest).regs = { s.regs.clobberArgs with r6 := f.saved6, r7 := f.saved7, r8 := f.saved8, r9 := f.saved9, r10 := f.fp } := rfl
@[simp] theorem leaveCallee_pc (s : State) (f : Frame) (rest : List Frame) :
    (leaveCallee s f rest).pc = f.ret := rfl
@[simp] theorem leaveCallee_frames (s : State) (f : Frame) (rest : List Frame) :
    (leaveCallee s f rest).frames = rest := rfl
@[simp] theorem leaveCallee_status (s : State) (f : Frame) (rest : List Frame) :
    (leaveCallee s f rest).status = s.status := rfl
@[simp] theorem leaveCallee_mem (s : State) (f : Frame) (rest : List Frame) :
    (leaveCallee s f rest).mem = s.mem := rfl
@[simp] theorem leaveCallee_grantedRegions (s : State) (f : Frame) (rest : List Frame) :
    (leaveCallee s f rest).grantedRegions = s.grantedRegions := rfl
@[simp] theorem leaveCallee_cfg (s : State) (f : Frame) (rest : List Frame) :
    (leaveCallee s f rest).cfg = s.cfg := rfl
@[simp] theorem leaveCallee_prog (s : State) (f : Frame) (rest : List Frame) :
    (leaveCallee s f rest).prog = s.prog := rfl
@[simp] theorem leaveCallee_choices (s : State) (f : Frame) (rest : List Frame) :
    (leaveCallee s f rest).choices = s.choices := rfl
@[simp] theorem leaveCallee_agentWrites (s : State) (f : Frame) (rest : List Frame) :
    (leaveCallee s f rest).agentWrites = s.agentWrites := rfl
@[simp] theorem leaveCallee_turns (s : State) (f : Frame) (rest : List Frame) :
    (leaveCallee s f rest).turns = s.turns := rfl

/-! ### `helperReturn` -/

@[simp] theorem helperReturn_regs (s : State) (result : RegCell) (edits : List MemEdit) (regions : List Region) :
    (helperReturn s result edits regions).regs = (s.regs.set .r0 result).clobberArgs := rfl
@[simp] theorem helperReturn_pc (s : State) (result : RegCell) (edits : List MemEdit) (regions : List Region) :
    (helperReturn s result edits regions).pc = s.pc + 1 := rfl
@[simp] theorem helperReturn_frames (s : State) (result : RegCell) (edits : List MemEdit) (regions : List Region) :
    (helperReturn s result edits regions).frames = s.frames := rfl
@[simp] theorem helperReturn_status (s : State) (result : RegCell) (edits : List MemEdit) (regions : List Region) :
    (helperReturn s result edits regions).status = s.status := rfl
@[simp] theorem helperReturn_mem (s : State) (result : RegCell) (edits : List MemEdit) (regions : List Region) :
    (helperReturn s result edits regions).mem = Memory.editAll s.mem edits := rfl
@[simp] theorem helperReturn_grantedRegions (s : State) (result : RegCell) (edits : List MemEdit) (regions : List Region) :
    (helperReturn s result edits regions).grantedRegions = regions := rfl
@[simp] theorem helperReturn_cfg (s : State) (result : RegCell) (edits : List MemEdit) (regions : List Region) :
    (helperReturn s result edits regions).cfg = s.cfg := rfl
@[simp] theorem helperReturn_prog (s : State) (result : RegCell) (edits : List MemEdit) (regions : List Region) :
    (helperReturn s result edits regions).prog = s.prog := rfl
@[simp] theorem helperReturn_choices (s : State) (result : RegCell) (edits : List MemEdit) (regions : List Region) :
    (helperReturn s result edits regions).choices = s.choices.tail := rfl
@[simp] theorem helperReturn_agentWrites (s : State) (result : RegCell) (edits : List MemEdit) (regions : List Region) :
    (helperReturn s result edits regions).agentWrites = s.agentWrites := rfl
@[simp] theorem helperReturn_turns (s : State) (result : RegCell) (edits : List MemEdit) (regions : List Region) :
    (helperReturn s result edits regions).turns = s.turns := rfl

/-! ### The register file -/

@[simp] theorem RegFile.get_r10 (x : RegFile) : x.get .r10 = .value x.r10 := rfl

@[simp] theorem RegFile.set_r10 (x : RegFile) (c : RegCell) : x.set .r10 c = x := rfl

@[simp] theorem RegFile.set_keeps_r10 (x : RegFile) (r : Reg) (c : RegCell) : (x.set r c).r10 = x.r10 := by
  cases r <;> rfl

theorem RegFile.get_set_same (x : RegFile) (r : Reg) (c : RegCell) (h : r ≠ .r10) :
    (x.set r c).get r = c := by
  cases r <;> first | rfl | exact absurd rfl h

theorem RegFile.get_set_other (x : RegFile) (r q : Reg) (c : RegCell) (h : q ≠ r) :
    (x.set r c).get q = x.get q := by
  cases r <;> cases q <;> first | rfl | exact absurd rfl h

@[simp] theorem RegFile.clobberArgs_keeps_r10 (x : RegFile) : x.clobberArgs.r10 = x.r10 := rfl

@[simp] theorem RegFile.clobberSaved_keeps_r10 (x : RegFile) : x.clobberSaved.r10 = x.r10 := rfl

/-- Two register files that agree on every register are equal. -/
theorem RegFile.ext_get (x y : RegFile) (h : ∀ r, x.get r = y.get r) : x = y := by
  cases x; cases y
  have e0 := h .r0; have e1 := h .r1; have e2 := h .r2; have e3 := h .r3; have e4 := h .r4
  have e5 := h .r5; have e6 := h .r6; have e7 := h .r7; have e8 := h .r8; have e9 := h .r9
  have e10 := h .r10
  simp only [RegFile.get, RegCell.value.injEq] at e0 e1 e2 e3 e4 e5 e6 e7 e8 e9 e10
  subst_vars
  rfl

end Sys2Proof.Machine
end

