-- ==== Sys2Proof/Laws/Ops.lean ====
section
/-! SUPPORT. For each shared operation, once, everything it can do: if it answers `next t`, then which of
its cases it was. Later proofs cite these and do not unfold the operations. -/

namespace Sys2Proof.Machine

open Sys2Proof

/-! ### Faults -/

theorem raise_eq (s : State) (f : FaultInfo) : raise s f = .next { s with status := .faulted f } := rfl

theorem raise_next {s t : State} {f : FaultInfo} :
    raise s f = .next t ↔ t = { s with status := .faulted f } := by
  simp [raise, eq_comm]

/-! ### Registers -/

theorem readReg_value {s : State} {r : Reg} {v : Word} (k : Word → StepOutcome)
    (h : s.regs.get r = .value v) : readReg s r k = k v := by
  simp [readReg, h]

theorem readReg_unwritten {s : State} {r : Reg} (k : Word → StepOutcome)
    (h : s.regs.get r = .unwritten) : readReg s r k = raise s (.unwrittenRegister r) := by
  simp [readReg, h]

@[simp] theorem readReg_r10 (s : State) (k : Word → StepOutcome) : readReg s .r10 k = k s.regs.r10 := rfl

theorem readReg_next {s t : State} {r : Reg} {k : Word → StepOutcome} (h : readReg s r k = .next t) :
    (∃ v, s.regs.get r = .value v ∧ k v = .next t) ∨
      (s.regs.get r = .unwritten ∧ t = { s with status := .faulted (.unwrittenRegister r) }) := by
  unfold readReg at h
  split at h
  · exact .inl ⟨_, ‹_›, h⟩
  · exact .inr ⟨‹_›, raise_next.1 h⟩

theorem readRegs_next {s t : State} {rs : List Reg} {k : List Word → StepOutcome}
    (h : readRegs s rs k = .next t) :
    (∃ vs, rs.map s.regs.get = vs.map RegCell.value ∧ k vs = .next t) ∨
      (∃ r ∈ rs, s.regs.get r = .unwritten ∧ t = { s with status := .faulted (.unwrittenRegister r) }) := by
  induction rs generalizing k with
  | nil => exact .inl ⟨[], rfl, h⟩
  | cons r rs ih =>
    rcases readReg_next h with ⟨v, hv, h⟩ | ⟨hr, ht⟩
    · rcases ih h with ⟨vs, hvs, h⟩ | ⟨q, hq, hu, ht⟩
      · exact .inl ⟨v :: vs, by simp [hv, hvs], h⟩
      · exact .inr ⟨q, List.mem_cons_of_mem _ hq, hu, ht⟩
    · exact .inr ⟨r, List.mem_cons_self, hr, ht⟩

theorem readRegs_values {s : State} {rs : List Reg} {vs : List Word} (k : List Word → StepOutcome)
    (h : rs.map s.regs.get = vs.map RegCell.value) : readRegs s rs k = k vs := by
  induction rs generalizing vs k with
  | nil =>
    cases vs with
    | nil => rfl
    | cons _ _ => simp at h
  | cons r rs ih =>
    cases vs with
    | nil => simp at h
    | cons v vs =>
      simp only [List.map_cons, List.cons.injEq] at h
      simp only [readRegs]
      rw [readReg_value _ h.1]
      exact ih _ h.2

/-! ### Jumps and shift counts -/

theorem jump_next {s t : State} {d : Int} (h : jump s d = .next t) :
    (jumpTarget s d < 0 ∧ t = { s with status := .faulted (.pcOutOfRange (jumpTarget s d)) }) ∨
      (0 ≤ jumpTarget s d ∧ t = { s with pc := (jumpTarget s d).toNat }) := by
  unfold jump at h
  split at h
  · exact .inl ⟨‹_›, raise_next.1 h⟩
  · exact .inr ⟨by omega, by simpa [eq_comm] using h⟩

theorem branch_next {s t : State} {c : Bool} {o : BitVec 16} (h : branch s c o = .next t) :
    (c = false ∧ t = s.advance) ∨
      (c = true ∧ jumpTarget s o.toInt < 0 ∧
        t = { s with status := .faulted (.pcOutOfRange (jumpTarget s o.toInt)) }) ∨
      (c = true ∧ 0 ≤ jumpTarget s o.toInt ∧ t = { s with pc := (jumpTarget s o.toInt).toNat }) := by
  unfold branch at h
  cases c with
  | false => exact .inl ⟨rfl, by simpa [eq_comm] using h⟩
  | true =>
    rcases jump_next h with ⟨h1, h2⟩ | ⟨h1, h2⟩
    · exact .inr (.inl ⟨rfl, h1, h2⟩)
    · exact .inr (.inr ⟨rfl, h1, h2⟩)

theorem shiftCount_inRange {n : Nat} (s : State) (b : BitVec n) (k : Nat → StepOutcome) (h : b.toNat < n) :
    shiftCount s b k = k b.toNat := by
  simp [shiftCount, h]

theorem shiftCount_next {n : Nat} {s t : State} {b : BitVec n} {k : Nat → StepOutcome}
    (h : shiftCount s b k = .next t) :
    (b.toNat < n ∧ k b.toNat = .next t) ∨
      (n ≤ b.toNat ∧ s.cfg.shiftOversize = .fault ∧
        t = { s with status := .faulted (.shiftOversize b.toNat) }) ∨
      (n ≤ b.toNat ∧ s.cfg.shiftOversize = .mask ∧ k (b &&& BitVec.ofNat n (n - 1)).toNat = .next t) := by
  unfold shiftCount at h
  split at h
  · exact .inl ⟨‹_›, h⟩
  · split at h
    · exact .inr (.inl ⟨by omega, ‹_›, raise_next.1 h⟩)
    · exact .inr (.inr ⟨by omega, ‹_›, h⟩)

/-! ### Memory -/

theorem readMem_bytes {s : State} {ea : Word} {n : Nat} {kind : AccessKind} {bs : List Byte}
    (k : Word → StepOutcome) (ha : s.admits ea n kind = true)
    (hb : Memory.readBytes s.mem ea.toNat n = some bs) :
    readMem s ea n kind k = k (bytesToWord s.cfg.endian bs) := by
  simp [readMem, ha, hb]

theorem readMem_next {s t : State} {ea : Word} {n : Nat} {kind : AccessKind} {k : Word → StepOutcome}
    (h : readMem s ea n kind k = .next t) :
    (∃ bs, s.admits ea n kind = true ∧ Memory.readBytes s.mem ea.toNat n = some bs ∧
        k (bytesToWord s.cfg.endian bs) = .next t) ∨
      (s.admits ea n kind = true ∧ Memory.readBytes s.mem ea.toNat n = none ∧
        t = { s with status := .faulted (.uninitialisedRead ea n) }) ∨
      (s.admits ea n kind = false ∧ t = { s with status := .faulted (.memoryFault ea n kind) }) := by
  unfold readMem at h
  split at h
  · split at h
    · exact .inl ⟨_, ‹_›, ‹_›, h⟩
    · exact .inr (.inl ⟨‹_›, ‹_›, raise_next.1 h⟩)
  · exact .inr (.inr ⟨Bool.eq_false_iff.2 ‹¬_›, raise_next.1 h⟩)

theorem writeMem_admitted {s : State} {ea : Word} {n : Nat} (v : Word) (k : State → StepOutcome)
    (ha : s.admits ea n .write = true) : writeMem s ea n v k = k (s.store ea n v) := by
  simp [writeMem, ha]

theorem writeMem_next {s t : State} {ea : Word} {n : Nat} {v : Word} {k : State → StepOutcome}
    (h : writeMem s ea n v k = .next t) :
    (s.admits ea n .write = true ∧ k (s.store ea n v) = .next t) ∨
      (s.admits ea n .write = false ∧ t = { s with status := .faulted (.memoryFault ea n .write) }) := by
  unfold writeMem at h
  split at h
  · exact .inl ⟨‹_›, h⟩
  · exact .inr ⟨Bool.eq_false_iff.2 ‹¬_›, raise_next.1 h⟩

theorem atomicRmw_next {s t : State} {ea : Word} {n : Nat} {f : Word → Option Word}
    {k : State → Word → StepOutcome} (h : atomicRmw s ea n f k = .next t) :
    (∃ bs, s.admits ea n .atomic = true ∧ Memory.readBytes s.mem ea.toNat n = some bs ∧
        ((∃ v, f (bytesToWord s.cfg.endian bs) = some v ∧
            k (s.store ea n v) (bytesToWord s.cfg.endian bs) = .next t) ∨
          (f (bytesToWord s.cfg.endian bs) = none ∧ k s (bytesToWord s.cfg.endian bs) = .next t))) ∨
      (s.admits ea n .atomic = true ∧ Memory.readBytes s.mem ea.toNat n = none ∧
        t = { s with status := .faulted (.uninitialisedRead ea n) }) ∨
      (s.admits ea n .atomic = false ∧ t = { s with status := .faulted (.memoryFault ea n .atomic) }) := by
  rcases readMem_next h with ⟨bs, ha, hb, h⟩ | h | h
  · refine .inl ⟨bs, ha, hb, ?_⟩
    split at h
    · exact .inl ⟨_, ‹_›, h⟩
    · exact .inr ⟨‹_›, h⟩
  · exact .inr (.inl h)
  · exact .inr (.inr h)

/-- A store that is admitted keeps memory canonical. -/
theorem State.store_wf (s : State) (ea : Word) (n : Nat) (v : Word) (kind : AccessKind)
    (ha : s.admits ea n kind = true) (h : Memory.wf s.mem = true) :
    Memory.wf (s.store ea n v).mem = true :=
  Memory.writeBytes_wf _ _ _ (by simpa using State.admits_fits s ea n kind ha) h

/-- A store leaves every byte outside its own `n` bytes alone. -/
theorem State.read_store_other (s : State) (ea : Word) (n : Nat) (v : Word) (x : Nat)
    (hx : x < ea.toNat ∨ ea.toNat + n ≤ x) :
    Memory.read (s.store ea n v).mem x = Memory.read s.mem x :=
  Memory.read_writeBytes_other _ _ _ _ (by simpa using hx)

/-! ### Platform functions -/

theorem platformValue_next {s t : State} {b : Bool} {sub : Nat} {imm : Half} {a : Option Word}
    {k : Word → StepOutcome} (h : platformValue s b sub imm a k = .next t) :
    (∃ v, b = true ∧ a = some v ∧ k v = .next t) ∨
      (b = true ∧ a = none ∧ t = { s with status := .faulted (.badPlatformReference sub imm.toInt) }) ∨
      (b = false ∧ t = { s with status := .faulted (.unsupportedFeature sub) }) := by
  unfold platformValue at h
  cases b with
  | false => exact .inr (.inr ⟨rfl, raise_next.1 h⟩)
  | true =>
    cases a with
    | some v => exact .inl ⟨v, rfl, rfl, h⟩
    | none => exact .inr (.inl ⟨rfl, rfl, raise_next.1 h⟩)

/-! ### The step -/

theorem step_running {s : State} (h : s.status = .running) : step s = stepRunning (agentTurn s) := by
  simp [step, h]

theorem step_next {s t : State} (h : step s = .next t) :
    s.status = .running ∧
      ((∃ f, fetch (agentTurn s) = .error f ∧ t = { agentTurn s with status := .faulted f }) ∨
        (∃ i, fetch (agentTurn s) = .ok i ∧ exec i (agentTurn s) = .next t)) := by
  unfold step at h
  split at h
  · refine ⟨‹_›, ?_⟩
    unfold stepRunning at h
    split at h
    · exact .inl ⟨_, ‹_›, raise_next.1 h⟩
    · exact .inr ⟨_, ‹_›, h⟩
  · simp at h

/-! ### Other agents (R62, R70, R350) -/

/-- The other agents' turn changes data memory and the model's own fields, nothing else. -/
theorem agentTurn_frame (s : State) :
    agentTurn s =
      { s with mem := (agentTurn s).mem, agentWrites := s.agentWrites.tail, turns := s.turns + 1 } := rfl

theorem agentTurn_mem_shared (s : State) (h : s.regions.any (fun r => r.shared) = true) :
    (agentTurn s).mem = s.agentMemory (nextAgentWrites s) := by
  simp [agentTurn, h]

/-- With no shared region the other agents' turn changes no byte. -/
theorem agentTurn_mem_private (s : State) (h : s.regions.any (fun r => r.shared) = false) :
    (agentTurn s).mem = s.mem := by
  simp [agentTurn, h]

/-- A shared byte lies in a shared region. -/
theorem State.sharedByte_any {s : State} {x : Word} (h : s.sharedByte x = true) :
    s.regions.any (fun r => r.shared) = true := by
  simp only [State.sharedByte, List.any_eq_true, Bool.and_eq_true] at h ⊢
  exact h.imp fun _ hr => ⟨hr.1, hr.2.1⟩

theorem agentTurn_read_private (s : State) (x : Word) (hx : s.sharedByte x = false) :
    Memory.read (agentTurn s).mem x.toNat = Memory.read s.mem x.toNat := by
  cases h : s.regions.any (fun r => r.shared)
  · rw [agentTurn_mem_private s h]
  · rw [agentTurn_mem_shared s h, State.read_agentMemory_private s _ x hx]

theorem agentTurn_wf (s : State) (h : Memory.wf s.mem = true) : Memory.wf (agentTurn s).mem = true := by
  cases hs : s.regions.any (fun r => r.shared)
  · rwa [agentTurn_mem_private s hs]
  · rw [agentTurn_mem_shared s hs]
    exact State.agentMemory_wf s _ h

/-! ### Helper functions and `cfg.LEGACY_PACKET` (R248, R325) -/

/-- Where a line of `run` speaks, the outcome is one it lists, and every one it lists is the outcome for
some choice (R248). -/
theorem helperOutcome_of_case {run : HelperRun} {args : List Word} {mem : Memory}
    {regions : List Region} {c : HelperCase}
    (hc : run.cases.find? (fun c => caseSpeaksOf c args mem regions) = some c) (o : HelperOutcome) :
    (∃ k, helperOutcome run args mem regions k = o) ↔ o ∈ c.first :: c.others := by
  have hlen : (c.first :: c.others).length = c.others.length + 1 := rfl
  constructor
  · rintro ⟨k, rfl⟩
    simp only [helperOutcome, hc]
    rw [List.getD_eq_getElem _ _ (by rw [hlen]; exact Nat.mod_lt _ (Nat.succ_pos _))]
    exact List.getElem_mem _
  · intro ho
    obtain ⟨k, hk, rfl⟩ := List.getElem_of_mem ho
    refine ⟨k, ?_⟩
    simp only [helperOutcome, hc]
    rw [Nat.mod_eq_of_lt (by omega), List.getD_eq_getElem]

/-- Where no line of `run` speaks, the outcome is the free value of log 7. -/
theorem helperOutcome_free {run : HelperRun} {args : List Word} {mem : Memory} {regions : List Region}
    (hc : run.cases.find? (fun c => caseSpeaksOf c args mem regions) = none) (k : Nat) :
    helperOutcome run args mem regions k = Config.helperOutcome run.id args mem regions k := by
  simp [helperOutcome, hc]

end Sys2Proof.Machine
end

