-- ==== Sys2Proof/Laws/Effects.lean ====
section
/-! SUPPORT. What an instruction can do: for each operand form, and then for every instruction in one
lemma, `exec_next`, the cases of its next state (`10_state.md` R24, R25, R31). -/

namespace Sys2Proof.Machine

open Sys2Proof

/-- The step raised a fault: everything but the status is as it was (`60_exceptions.md` R340). -/
def Raised (s t : State) : Prop := ∃ f : FaultInfo, t = { s with status := .faulted f }

/-- A fault, or a value written to `d` and one slot passed. -/
def WroteBack (s t : State) (d : Reg) : Prop := Raised s t ∨ ∃ v, t = s.writeBack d v

/-- A fault, or a new pc and nothing else. -/
def Jumped (s t : State) : Prop := Raised s t ∨ ∃ n : Nat, t = { s with pc := n }

/-- A fault, or a value written to `d` and two slots passed. -/
def WroteBackWide (s t : State) (d : Reg) : Prop := Raised s t ∨ ∃ v, t = s.writeBackWide d v

/-- A fault, or an admitted store of `n` bytes at `base + offset`. -/
def Stored (s t : State) (base : Reg) (offset : BitVec 16) (n : Nat) : Prop :=
  Raised s t ∨ ∃ b v : Word, s.regs.get base = .value b ∧
    s.admits (effectiveAddress b offset) n .write = true ∧
    t = (s.store (effectiveAddress b offset) n v).advance

/-- A fault, or an admitted atomic access to `n` bytes at `base + offset` that stores or does not, and
then writes no register or one of `ds`. -/
def Exchanged (s t : State) (base : Reg) (offset : BitVec 16) (n : Nat) (ds : List Reg) : Prop :=
  Raised s t ∨ ∃ (b : Word) (u : State), s.regs.get base = .value b ∧
    s.admits (effectiveAddress b offset) n .atomic = true ∧
    (u = s ∨ ∃ v, u = s.store (effectiveAddress b offset) n v) ∧
    ((ds = [] ∧ t = u.advance) ∨ ∃ d v, ds = [d] ∧ t = u.writeBack d v)

/-! ### Operand forms -/

theorem writeBack_next {s t : State} {d : Reg} {v : Word}
    (h : (Host.Outcome.next (s.writeBack d v) : StepOutcome) = .next t) : WroteBack s t d :=
  .inr ⟨v, by simpa [eq_comm] using h⟩

theorem writeBackWide_next {s t : State} {d : Reg} {v : Word}
    (h : (Host.Outcome.next (s.writeBackWide d v) : StepOutcome) = .next t) : WroteBackWide s t d :=
  .inr ⟨v, by simpa [eq_comm] using h⟩

theorem readReg_cases {s t : State} {r : Reg} {k : Word → StepOutcome} {P : Prop}
    (h : readReg s r k = .next t) (hf : Raised s t → P)
    (hk : ∀ v, s.regs.get r = .value v → k v = .next t → P) : P := by
  rcases readReg_next h with ⟨v, hv, h⟩ | ⟨-, h⟩
  · exact hk v hv h
  · exact hf ⟨_, h⟩

theorem shiftCount_cases {n : Nat} {s t : State} {b : BitVec n} {k : Nat → StepOutcome} {P : Prop}
    (h : shiftCount s b k = .next t) (hf : Raised s t → P) (hk : ∀ c, k c = .next t → P) : P := by
  rcases shiftCount_next h with ⟨-, h⟩ | ⟨-, -, h⟩ | ⟨-, -, h⟩
  · exact hk _ h
  · exact hf ⟨_, h⟩
  · exact hk _ h

theorem branch_jumped {s t : State} {c : Bool} {o : BitVec 16} (h : branch s c o = .next t) :
    Jumped s t := by
  rcases branch_next h with ⟨-, h⟩ | ⟨-, -, h⟩ | ⟨-, -, h⟩
  · exact .inr ⟨_, h⟩
  · exact .inl ⟨_, h⟩
  · exact .inr ⟨_, h⟩

theorem ja_next {s t : State} {o : BitVec 16} (h : execJa o s = .next t) : Jumped s t := by
  rcases jump_next h with ⟨-, h⟩ | ⟨-, h⟩
  · exact .inl ⟨_, h⟩
  · exact .inr ⟨_, h⟩

theorem arith32K_next {s t : State} {op : Half → Half → Half} {d : Reg} {imm : Half}
    (h : arith32K op d imm s = .next t) : WroteBack s t d :=
  readReg_cases h .inl fun _ _ h => writeBack_next h

theorem arith32X_next {s t : State} {op : Half → Half → Half} {d r : Reg}
    (h : arith32X op d r s = .next t) : WroteBack s t d :=
  readReg_cases h .inl fun _ _ h =>
    readReg_cases h .inl fun _ _ h => writeBack_next h

theorem unary32_next {s t : State} {op : Half → Half} {d : Reg}
    (h : unary32 op d s = .next t) : WroteBack s t d :=
  readReg_cases h .inl fun _ _ h => writeBack_next h

theorem shift32K_next {s t : State} {op : Half → Nat → Half} {d : Reg} {imm : Half}
    (h : shift32K op d imm s = .next t) : WroteBack s t d :=
  readReg_cases h .inl fun _ _ h => 
    shiftCount_cases h .inl fun _ h => writeBack_next h

theorem shift32X_next {s t : State} {op : Half → Nat → Half} {d r : Reg}
    (h : shift32X op d r s = .next t) : WroteBack s t d :=
  readReg_cases h .inl fun _ _ h =>
    readReg_cases h .inl fun _ _ h => 
    shiftCount_cases h .inl fun _ h => writeBack_next h

theorem jump32K_next {s t : State} {c : Half → Half → Bool} {d : Reg} {o : BitVec 16} {imm : Half}
    (h : jump32K c d o imm s = .next t) : Jumped s t :=
  readReg_cases h .inl fun _ _ h => branch_jumped h

theorem jump32X_next {s t : State} {c : Half → Half → Bool} {d r : Reg} {o : BitVec 16}
    (h : jump32X c d r o s = .next t) : Jumped s t :=
  readReg_cases h .inl fun _ _ h =>
    readReg_cases h .inl fun _ _ h => branch_jumped h

theorem arith64K_next {s t : State} {op : Word → Word → Word} {d : Reg} {imm : Half}
    (h : arith64K op d imm s = .next t) : WroteBack s t d :=
  readReg_cases h .inl fun _ _ h => writeBack_next h

theorem arith64X_next {s t : State} {op : Word → Word → Word} {d r : Reg}
    (h : arith64X op d r s = .next t) : WroteBack s t d :=
  readReg_cases h .inl fun _ _ h =>
    readReg_cases h .inl fun _ _ h => writeBack_next h

theorem unary64_next {s t : State} {op : Word → Word} {d : Reg}
    (h : unary64 op d s = .next t) : WroteBack s t d :=
  readReg_cases h .inl fun _ _ h => writeBack_next h

theorem shift64K_next {s t : State} {op : Word → Nat → Word} {d : Reg} {imm : Half}
    (h : shift64K op d imm s = .next t) : WroteBack s t d :=
  readReg_cases h .inl fun _ _ h => 
    shiftCount_cases h .inl fun _ h => writeBack_next h

theorem shift64X_next {s t : State} {op : Word → Nat → Word} {d r : Reg}
    (h : shift64X op d r s = .next t) : WroteBack s t d :=
  readReg_cases h .inl fun _ _ h =>
    readReg_cases h .inl fun _ _ h => 
    shiftCount_cases h .inl fun _ h => writeBack_next h

theorem jump64K_next {s t : State} {c : Word → Word → Bool} {d : Reg} {o : BitVec 16} {imm : Half}
    (h : jump64K c d o imm s = .next t) : Jumped s t :=
  readReg_cases h .inl fun _ _ h => branch_jumped h

theorem jump64X_next {s t : State} {c : Word → Word → Bool} {d r : Reg} {o : BitVec 16}
    (h : jump64X c d r o s = .next t) : Jumped s t :=
  readReg_cases h .inl fun _ _ h =>
    readReg_cases h .inl fun _ _ h => branch_jumped h

theorem byteSwap_next {s t : State} {n : Nat} {c : BitVec n → BitVec n} {d : Reg}
    (h : byteSwap c d s = .next t) : WroteBack s t d :=
  readReg_cases h .inl fun _ _ h => writeBack_next h

theorem load_next {s t : State} {n : Nat} {d r : Reg} {o : BitVec 16} (h : load n d r o s = .next t) :
    WroteBack s t d :=
  readReg_cases h .inl fun _ _ h => by
    rcases readMem_next h with ⟨_, -, -, h⟩ | ⟨-, -, h⟩ | ⟨-, h⟩
    · exact writeBack_next h
    · exact .inl ⟨_, h⟩
    · exact .inl ⟨_, h⟩

theorem storeImm_next {s t : State} {n : Nat} {d : Reg} {o : BitVec 16} {imm : Half}
    (h : storeImm n d o imm s = .next t) : Stored s t d o n :=
  readReg_cases h .inl fun b hb h => by
    rcases writeMem_next h with ⟨ha, h⟩ | ⟨-, h⟩
    · exact .inr ⟨b, _, hb, ha, by simpa [eq_comm] using h⟩
    · exact .inl ⟨_, h⟩

theorem storeReg_next {s t : State} {n : Nat} {d r : Reg} {o : BitVec 16}
    (h : storeReg n d r o s = .next t) : Stored s t d o n :=
  readReg_cases h .inl fun b hb h => readReg_cases h .inl fun _ _ h => by
    rcases writeMem_next h with ⟨ha, h⟩ | ⟨-, h⟩
    · exact .inr ⟨b, _, hb, ha, by simpa [eq_comm] using h⟩
    · exact .inl ⟨_, h⟩

theorem atomicModify_next {s t : State} {n : Nat} {op : Word → Word → Word} {d r : Reg} {o : BitVec 16}
    (h : atomicModify n op d r o s = .next t) : Exchanged s t d o n [] :=
  readReg_cases h .inl fun b hb h => readReg_cases h .inl fun _ _ h => by
    rcases atomicRmw_next h with ⟨_, ha, -, ⟨v, -, h⟩ | ⟨hn, -⟩⟩ | ⟨-, -, h⟩ | ⟨-, h⟩
    · exact .inr ⟨b, _, hb, ha, .inr ⟨v, rfl⟩, .inl ⟨rfl, by simpa [eq_comm] using h⟩⟩
    · cases hn
    · exact .inl ⟨_, h⟩
    · exact .inl ⟨_, h⟩

theorem atomicFetch_next {s t : State} {n : Nat} {op : Word → Word → Word} {d r : Reg} {o : BitVec 16}
    (h : atomicFetch n op d r o s = .next t) : Exchanged s t d o n [r] :=
  readReg_cases h .inl fun b hb h => readReg_cases h .inl fun _ _ h => by
    rcases atomicRmw_next h with ⟨_, ha, -, ⟨v, -, h⟩ | ⟨hn, -⟩⟩ | ⟨-, -, h⟩ | ⟨-, h⟩
    · exact .inr ⟨b, _, hb, ha, .inr ⟨v, rfl⟩, .inr ⟨r, _, rfl, by simpa [eq_comm] using h⟩⟩
    · cases hn
    · exact .inl ⟨_, h⟩
    · exact .inl ⟨_, h⟩

theorem atomicCompareExchange_next {s t : State} {n : Nat} {part : Word → Word} {d r : Reg}
    {o : BitVec 16} (h : atomicCompareExchange n part d r o s = .next t) : Exchanged s t d o n [.r0] :=
  readReg_cases h .inl fun b hb h => readReg_cases h .inl fun _ _ h =>
    readReg_cases h .inl fun _ _ h => by
    rcases atomicRmw_next h with ⟨_, ha, -, ⟨v, -, h⟩ | ⟨-, h⟩⟩ | ⟨-, -, h⟩ | ⟨-, h⟩
    · exact .inr ⟨b, _, hb, ha, .inr ⟨v, rfl⟩, .inr ⟨.r0, _, rfl, by simpa [eq_comm] using h⟩⟩
    · exact .inr ⟨b, _, hb, ha, .inl rfl, .inr ⟨.r0, _, rfl, by simpa [eq_comm] using h⟩⟩
    · exact .inl ⟨_, h⟩
    · exact .inl ⟨_, h⟩

theorem platformLoad_next {s t : State} {f : Bool} {n : Nat} {imm : Half} {a : Option Word} {d : Reg}
    (h : platformValue s f n imm a (fun v => .next (s.writeBackWide d v)) = .next t) :
    WroteBackWide s t d := by
  rcases platformValue_next h with ⟨v, -, -, h⟩ | ⟨-, -, h⟩ | ⟨-, h⟩
  · exact .inr ⟨v, by simpa [eq_comm] using h⟩
  · exact .inl ⟨_, h⟩
  · exact .inl ⟨_, h⟩

theorem helperCall_next {s t : State} {sp : HelperSpace} {tb : List HelperEntry} {imm : Half}
    (h : helperCall sp tb imm s = .next t) :
    Raised s t ∨ ∃ r es gs, t = helperReturn s r es gs := by
  unfold helperCall at h
  split at h
  · exact .inl ⟨_, raise_next.1 h⟩
  · rcases readRegs_next h with ⟨args, -, h⟩ | ⟨_, -, -, h⟩
    · split at h
      · exact .inl ⟨_, raise_next.1 h⟩
      · exact .inr ⟨_, _, _, by simpa [eq_comm] using h⟩
    · exact .inl ⟨_, h⟩

theorem callLocal_next {s t : State} {o : BitVec 16} {imm : Half} (h : execCallLocal o imm s = .next t) :
    Raised s t ∨ (s.frames.length < s.cfg.maxCallDepth ∧ ∃ n, t = enterCallee s n) := by
  unfold execCallLocal at h
  split at h
  · exact .inl ⟨_, raise_next.1 h⟩
  · simp only at h
    split at h
    · exact .inl ⟨_, raise_next.1 h⟩
    · exact .inr ⟨by omega, _, by simpa [eq_comm] using h⟩

theorem exit_next {s t : State} (h : execExit s = .next t) :
    Raised s t ∨
      (s.frames = [] ∧ ∃ v, s.regs.get .r0 = .value v ∧ t = { s with status := .exited v, pc := s.pc + 1 }) ∨
      (∃ f rest, s.frames = f :: rest ∧ t = leaveCallee s f rest) := by
  unfold execExit at h
  split at h
  · exact readReg_cases h .inl fun v hv h => .inr (.inl ⟨‹_›, v, hv, by simpa [eq_comm] using h⟩)
  · split at h
    · exact .inl ⟨_, raise_next.1 h⟩
    · exact .inr (.inr ⟨_, _, ‹_›, by simpa [eq_comm] using h⟩)

theorem legacyAccess_next {s t : State} {fields : LegacyFields} (h : legacyAccess fields s = .next t) :
    Raised s t ∨ (s.cfg.legacyPacket ≠ none ∧
      ∃ (regs : RegFile) (pc : Nat) (frames : List Frame) (st : Status) (edits : List MemEdit)
        (regions : List Region), (st = .running ∨ ∃ v, st = .exited v) ∧
        t = { s with
          regs := regs, pc := pc, frames := frames, status := st
          mem := Memory.editAll s.mem edits, grantedRegions := regions }) := by
  unfold legacyAccess at h
  split at h
  · exact .inl ⟨_, raise_next.1 h⟩
  · rename_i fn hc
    split at h
    · exact .inl ⟨_, raise_next.1 h⟩
    · rename_i v _ _ _
      refine .inr ⟨by simp [hc], _, _, _, _, _, _, ?_, by simpa [eq_comm] using h⟩
      cases v
      · exact .inl rfl
      · exact .inr ⟨_, rfl⟩

/-! ### Every instruction -/

/-- The effect of an instruction that raises no fault, by family (`10_state.md` R24). -/
def Effect (i : Instr) (s t : State) : Prop :=
  match familyOf i with
  | .arithmetic | .load => ∃ d v, writesOf i = [d] ∧ t = s.writeBack d v
  | .jump => ∃ n : Nat, t = { s with pc := n }
  | .imm64 => ∃ d v, writesOf i = [d] ∧ t = s.writeBackWide d v
  | .store => ∃ ea n v, storeTarget i s = some (ea, n) ∧ s.admits ea n .write = true ∧
      t = (s.store ea n v).advance
  | .atomic => ∃ ea n u, storeTarget i s = some (ea, n) ∧ s.admits ea n .atomic = true ∧
      (u = s ∨ ∃ v, u = s.store ea n v) ∧
      ((writesOf i = [] ∧ t = u.advance) ∨ ∃ d v, writesOf i = [d] ∧ t = u.writeBack d v)
  | .helperCall => ∃ r es gs, t = helperReturn s r es gs
  | .localCall => s.frames.length < s.cfg.maxCallDepth ∧ ∃ n, t = enterCallee s n
  | .exit => i = .exit ∧
      ((s.frames = [] ∧ ∃ v, s.regs.get .r0 = .value v ∧
          t = { s with status := .exited v, pc := s.pc + 1 }) ∨
        ∃ f rest, s.frames = f :: rest ∧ t = leaveCallee s f rest)
  | .legacy => s.cfg.legacyPacket ≠ none ∧
      ∃ (regs : RegFile) (pc : Nat) (frames : List Frame) (st : Status) (edits : List MemEdit)
        (regions : List Region), (st = .running ∨ ∃ v, st = .exited v) ∧
        t = { s with
          regs := regs, pc := pc, frames := frames, status := st
          mem := Memory.editAll s.mem edits, grantedRegions := regions }

theorem effect_of_wroteBack {i : Instr} {s t : State} {d : Reg} (h : WroteBack s t d)
    (hw : writesOf i = [d]) (hf : familyOf i = .arithmetic ∨ familyOf i = .load) :
    Raised s t ∨ Effect i s t :=
  h.imp_right fun ⟨v, h⟩ => by
    rcases hf with hf | hf <;> simp only [Effect, hf] <;> exact ⟨d, v, hw, h⟩

theorem effect_of_wroteBackWide {i : Instr} {s t : State} {d : Reg} (h : WroteBackWide s t d)
    (hw : writesOf i = [d]) (hf : familyOf i = .imm64) : Raised s t ∨ Effect i s t :=
  h.imp_right fun ⟨v, h⟩ => by simp only [Effect, hf]; exact ⟨d, v, hw, h⟩

theorem effect_of_jumped {i : Instr} {s t : State} (h : Jumped s t) (hf : familyOf i = .jump) :
    Raised s t ∨ Effect i s t :=
  h.imp_right fun h => by simpa only [Effect, hf] using h

theorem effect_of_stored {i : Instr} {s t : State} {b : Reg} {o : BitVec 16} {n : Nat}
    (h : Stored s t b o n) (hs : storeOperand i = some (b, o, n)) (hf : familyOf i = .store) :
    Raised s t ∨ Effect i s t :=
  h.imp_right fun ⟨v, w, hb, ha, h⟩ => by
    simp only [Effect, hf]
    exact ⟨_, n, w, by simp [storeTarget, hs, hb], ha, h⟩

theorem effect_of_exchanged {i : Instr} {s t : State} {b : Reg} {o : BitVec 16} {n : Nat}
    (h : Exchanged s t b o n (writesOf i)) (hs : storeOperand i = some (b, o, n))
    (hf : familyOf i = .atomic) : Raised s t ∨ Effect i s t :=
  h.imp_right fun ⟨v, u, hb, ha, hu, h⟩ => by
    simp only [Effect, hf]
    exact ⟨_, n, u, by simp [storeTarget, hs, hb], ha, hu, h⟩

/-- Everything an instruction can do: raise a fault, or have the effect of its family. -/
theorem exec_next {i : Instr} {s t : State} (h : exec i s = .next t) : Raised s t ∨ Effect i s t := by
  cases i with
  | add32K _ _ => exact effect_of_wroteBack (arith32K_next h) rfl (.inl rfl)
  | add32X _ _ => exact effect_of_wroteBack (arith32X_next h) rfl (.inl rfl)
  | sub32K _ _ => exact effect_of_wroteBack (arith32K_next h) rfl (.inl rfl)
  | sub32X _ _ => exact effect_of_wroteBack (arith32X_next h) rfl (.inl rfl)
  | mul32K _ _ => exact effect_of_wroteBack (arith32K_next h) rfl (.inl rfl)
  | mul32X _ _ => exact effect_of_wroteBack (arith32X_next h) rfl (.inl rfl)
  | div32K _ _ => exact effect_of_wroteBack (arith32K_next h) rfl (.inl rfl)
  | div32X _ _ => exact effect_of_wroteBack (arith32X_next h) rfl (.inl rfl)
  | or32K _ _ => exact effect_of_wroteBack (arith32K_next h) rfl (.inl rfl)
  | or32X _ _ => exact effect_of_wroteBack (arith32X_next h) rfl (.inl rfl)
  | and32K _ _ => exact effect_of_wroteBack (arith32K_next h) rfl (.inl rfl)
  | and32X _ _ => exact effect_of_wroteBack (arith32X_next h) rfl (.inl rfl)
  | lsh32K _ _ => exact effect_of_wroteBack (shift32K_next h) rfl (.inl rfl)
  | lsh32X _ _ => exact effect_of_wroteBack (shift32X_next h) rfl (.inl rfl)
  | rsh32K _ _ => exact effect_of_wroteBack (shift32K_next h) rfl (.inl rfl)
  | rsh32X _ _ => exact effect_of_wroteBack (shift32X_next h) rfl (.inl rfl)
  | neg32 _ => exact effect_of_wroteBack (unary32_next h) rfl (.inl rfl)
  | mod32K _ _ => exact effect_of_wroteBack (arith32K_next h) rfl (.inl rfl)
  | mod32X _ _ => exact effect_of_wroteBack (arith32X_next h) rfl (.inl rfl)
  | xor32K _ _ => exact effect_of_wroteBack (arith32K_next h) rfl (.inl rfl)
  | xor32X _ _ => exact effect_of_wroteBack (arith32X_next h) rfl (.inl rfl)
  | mov32K _ _ => exact effect_of_wroteBack (writeBack_next h) rfl (.inl rfl)
  | mov32X _ _ => exact effect_of_wroteBack (readReg_cases h .inl fun _ _ h => writeBack_next h) rfl (.inl rfl)
  | arsh32K _ _ => exact effect_of_wroteBack (shift32K_next h) rfl (.inl rfl)
  | arsh32X _ _ => exact effect_of_wroteBack (shift32X_next h) rfl (.inl rfl)
  | add64K _ _ => exact effect_of_wroteBack (arith64K_next h) rfl (.inl rfl)
  | add64X _ _ => exact effect_of_wroteBack (arith64X_next h) rfl (.inl rfl)
  | sub64K _ _ => exact effect_of_wroteBack (arith64K_next h) rfl (.inl rfl)
  | sub64X _ _ => exact effect_of_wroteBack (arith64X_next h) rfl (.inl rfl)
  | mul64K _ _ => exact effect_of_wroteBack (arith64K_next h) rfl (.inl rfl)
  | mul64X _ _ => exact effect_of_wroteBack (arith64X_next h) rfl (.inl rfl)
  | div64K _ _ => exact effect_of_wroteBack (arith64K_next h) rfl (.inl rfl)
  | div64X _ _ => exact effect_of_wroteBack (arith64X_next h) rfl (.inl rfl)
  | or64K _ _ => exact effect_of_wroteBack (arith64K_next h) rfl (.inl rfl)
  | or64X _ _ => exact effect_of_wroteBack (arith64X_next h) rfl (.inl rfl)
  | and64K _ _ => exact effect_of_wroteBack (arith64K_next h) rfl (.inl rfl)
  | and64X _ _ => exact effect_of_wroteBack (arith64X_next h) rfl (.inl rfl)
  | lsh64K _ _ => exact effect_of_wroteBack (shift64K_next h) rfl (.inl rfl)
  | lsh64X _ _ => exact effect_of_wroteBack (shift64X_next h) rfl (.inl rfl)
  | rsh64K _ _ => exact effect_of_wroteBack (shift64K_next h) rfl (.inl rfl)
  | rsh64X _ _ => exact effect_of_wroteBack (shift64X_next h) rfl (.inl rfl)
  | neg64 _ => exact effect_of_wroteBack (unary64_next h) rfl (.inl rfl)
  | mod64K _ _ => exact effect_of_wroteBack (arith64K_next h) rfl (.inl rfl)
  | mod64X _ _ => exact effect_of_wroteBack (arith64X_next h) rfl (.inl rfl)
  | xor64K _ _ => exact effect_of_wroteBack (arith64K_next h) rfl (.inl rfl)
  | xor64X _ _ => exact effect_of_wroteBack (arith64X_next h) rfl (.inl rfl)
  | mov64K _ _ => exact effect_of_wroteBack (writeBack_next h) rfl (.inl rfl)
  | mov64X _ _ => exact effect_of_wroteBack (readReg_cases h .inl fun _ _ h => writeBack_next h) rfl (.inl rfl)
  | arsh64K _ _ => exact effect_of_wroteBack (shift64K_next h) rfl (.inl rfl)
  | arsh64X _ _ => exact effect_of_wroteBack (shift64X_next h) rfl (.inl rfl)
  | le16 _ => exact effect_of_wroteBack (byteSwap_next h) rfl (.inl rfl)
  | le32 _ => exact effect_of_wroteBack (byteSwap_next h) rfl (.inl rfl)
  | le64 _ => exact effect_of_wroteBack (byteSwap_next h) rfl (.inl rfl)
  | be16 _ => exact effect_of_wroteBack (byteSwap_next h) rfl (.inl rfl)
  | be32 _ => exact effect_of_wroteBack (byteSwap_next h) rfl (.inl rfl)
  | be64 _ => exact effect_of_wroteBack (byteSwap_next h) rfl (.inl rfl)
  | ja _ => exact effect_of_jumped (ja_next h) rfl
  | jeqK _ _ _ => exact effect_of_jumped (jump64K_next h) rfl
  | jeqX _ _ _ => exact effect_of_jumped (jump64X_next h) rfl
  | jgtK _ _ _ => exact effect_of_jumped (jump64K_next h) rfl
  | jgtX _ _ _ => exact effect_of_jumped (jump64X_next h) rfl
  | jgeK _ _ _ => exact effect_of_jumped (jump64K_next h) rfl
  | jgeX _ _ _ => exact effect_of_jumped (jump64X_next h) rfl
  | jsetK _ _ _ => exact effect_of_jumped (jump64K_next h) rfl
  | jsetX _ _ _ => exact effect_of_jumped (jump64X_next h) rfl
  | jneK _ _ _ => exact effect_of_jumped (jump64K_next h) rfl
  | jneX _ _ _ => exact effect_of_jumped (jump64X_next h) rfl
  | jsgtK _ _ _ => exact effect_of_jumped (jump64K_next h) rfl
  | jsgtX _ _ _ => exact effect_of_jumped (jump64X_next h) rfl
  | jsgeK _ _ _ => exact effect_of_jumped (jump64K_next h) rfl
  | jsgeX _ _ _ => exact effect_of_jumped (jump64X_next h) rfl
  | jltK _ _ _ => exact effect_of_jumped (jump64K_next h) rfl
  | jltX _ _ _ => exact effect_of_jumped (jump64X_next h) rfl
  | jleK _ _ _ => exact effect_of_jumped (jump64K_next h) rfl
  | jleX _ _ _ => exact effect_of_jumped (jump64X_next h) rfl
  | jsltK _ _ _ => exact effect_of_jumped (jump64K_next h) rfl
  | jsltX _ _ _ => exact effect_of_jumped (jump64X_next h) rfl
  | jsleK _ _ _ => exact effect_of_jumped (jump64K_next h) rfl
  | jsleX _ _ _ => exact effect_of_jumped (jump64X_next h) rfl
  | jeq32K _ _ _ => exact effect_of_jumped (jump32K_next h) rfl
  | jeq32X _ _ _ => exact effect_of_jumped (jump32X_next h) rfl
  | jgt32K _ _ _ => exact effect_of_jumped (jump32K_next h) rfl
  | jgt32X _ _ _ => exact effect_of_jumped (jump32X_next h) rfl
  | jge32K _ _ _ => exact effect_of_jumped (jump32K_next h) rfl
  | jge32X _ _ _ => exact effect_of_jumped (jump32X_next h) rfl
  | jset32K _ _ _ => exact effect_of_jumped (jump32K_next h) rfl
  | jset32X _ _ _ => exact effect_of_jumped (jump32X_next h) rfl
  | jne32K _ _ _ => exact effect_of_jumped (jump32K_next h) rfl
  | jne32X _ _ _ => exact effect_of_jumped (jump32X_next h) rfl
  | jsgt32K _ _ _ => exact effect_of_jumped (jump32K_next h) rfl
  | jsgt32X _ _ _ => exact effect_of_jumped (jump32X_next h) rfl
  | jsge32K _ _ _ => exact effect_of_jumped (jump32K_next h) rfl
  | jsge32X _ _ _ => exact effect_of_jumped (jump32X_next h) rfl
  | jlt32K _ _ _ => exact effect_of_jumped (jump32K_next h) rfl
  | jlt32X _ _ _ => exact effect_of_jumped (jump32X_next h) rfl
  | jle32K _ _ _ => exact effect_of_jumped (jump32K_next h) rfl
  | jle32X _ _ _ => exact effect_of_jumped (jump32X_next h) rfl
  | jslt32K _ _ _ => exact effect_of_jumped (jump32K_next h) rfl
  | jslt32X _ _ _ => exact effect_of_jumped (jump32X_next h) rfl
  | jsle32K _ _ _ => exact effect_of_jumped (jump32K_next h) rfl
  | jsle32X _ _ _ => exact effect_of_jumped (jump32X_next h) rfl
  | callHelper _ => exact helperCall_next h
  | callLocal _ _ => exact callLocal_next h
  | callHelperSpecific _ => exact helperCall_next h
  | exit => exact (exit_next h).imp_right fun h => ⟨rfl, h⟩
  | ldxw _ _ _ => exact effect_of_wroteBack (load_next h) rfl (.inr rfl)
  | ldxh _ _ _ => exact effect_of_wroteBack (load_next h) rfl (.inr rfl)
  | ldxb _ _ _ => exact effect_of_wroteBack (load_next h) rfl (.inr rfl)
  | ldxdw _ _ _ => exact effect_of_wroteBack (load_next h) rfl (.inr rfl)
  | stw _ _ _ => exact effect_of_stored (storeImm_next h) rfl rfl
  | sth _ _ _ => exact effect_of_stored (storeImm_next h) rfl rfl
  | stb _ _ _ => exact effect_of_stored (storeImm_next h) rfl rfl
  | stdw _ _ _ => exact effect_of_stored (storeImm_next h) rfl rfl
  | stxw _ _ _ => exact effect_of_stored (storeReg_next h) rfl rfl
  | stxh _ _ _ => exact effect_of_stored (storeReg_next h) rfl rfl
  | stxb _ _ _ => exact effect_of_stored (storeReg_next h) rfl rfl
  | stxdw _ _ _ => exact effect_of_stored (storeReg_next h) rfl rfl
  | atomicAdd32 _ _ _ => exact effect_of_exchanged (atomicModify_next h) rfl rfl
  | atomicFetchAdd32 _ _ _ => exact effect_of_exchanged (atomicFetch_next h) rfl rfl
  | atomicOr32 _ _ _ => exact effect_of_exchanged (atomicModify_next h) rfl rfl
  | atomicFetchOr32 _ _ _ => exact effect_of_exchanged (atomicFetch_next h) rfl rfl
  | atomicAnd32 _ _ _ => exact effect_of_exchanged (atomicModify_next h) rfl rfl
  | atomicFetchAnd32 _ _ _ => exact effect_of_exchanged (atomicFetch_next h) rfl rfl
  | atomicXor32 _ _ _ => exact effect_of_exchanged (atomicModify_next h) rfl rfl
  | atomicFetchXor32 _ _ _ => exact effect_of_exchanged (atomicFetch_next h) rfl rfl
  | atomicXchg32 _ _ _ => exact effect_of_exchanged (atomicFetch_next h) rfl rfl
  | atomicCmpxchg32 _ _ _ => exact effect_of_exchanged (atomicCompareExchange_next h) rfl rfl
  | atomicAdd64 _ _ _ => exact effect_of_exchanged (atomicModify_next h) rfl rfl
  | atomicFetchAdd64 _ _ _ => exact effect_of_exchanged (atomicFetch_next h) rfl rfl
  | atomicOr64 _ _ _ => exact effect_of_exchanged (atomicModify_next h) rfl rfl
  | atomicFetchOr64 _ _ _ => exact effect_of_exchanged (atomicFetch_next h) rfl rfl
  | atomicAnd64 _ _ _ => exact effect_of_exchanged (atomicModify_next h) rfl rfl
  | atomicFetchAnd64 _ _ _ => exact effect_of_exchanged (atomicFetch_next h) rfl rfl
  | atomicXor64 _ _ _ => exact effect_of_exchanged (atomicModify_next h) rfl rfl
  | atomicFetchXor64 _ _ _ => exact effect_of_exchanged (atomicFetch_next h) rfl rfl
  | atomicXchg64 _ _ _ => exact effect_of_exchanged (atomicFetch_next h) rfl rfl
  | atomicCmpxchg64 _ _ _ => exact effect_of_exchanged (atomicCompareExchange_next h) rfl rfl
  | lddw _ _ _ => exact effect_of_wroteBackWide (writeBackWide_next h) rfl rfl
  | ldMapFd _ _ => exact effect_of_wroteBackWide (platformLoad_next h) rfl rfl
  | ldMapValueFd _ _ _ => exact effect_of_wroteBackWide (platformLoad_next h) rfl rfl
  | ldVarAddr _ _ => exact effect_of_wroteBackWide (platformLoad_next h) rfl rfl
  | ldCodeAddr _ _ => exact effect_of_wroteBackWide (platformLoad_next h) rfl rfl
  | ldMapIdx _ _ => exact effect_of_wroteBackWide (platformLoad_next h) rfl rfl
  | ldMapValueIdx _ _ _ => exact effect_of_wroteBackWide (platformLoad_next h) rfl rfl
  | ldAbsW _ _ _ _ => exact legacyAccess_next h
  | ldAbsH _ _ _ _ => exact legacyAccess_next h
  | ldAbsB _ _ _ _ => exact legacyAccess_next h
  | ldAbsDw _ _ _ _ => exact legacyAccess_next h
  | ldIndW _ _ _ _ => exact legacyAccess_next h
  | ldIndH _ _ _ _ => exact legacyAccess_next h
  | ldIndB _ _ _ _ => exact legacyAccess_next h
  | ldIndDw _ _ _ _ => exact legacyAccess_next h

end Sys2Proof.Machine
end

