-- ==== Sys2Proof/Laws/PerInstr.lean ====
section
/-! SUPPORT. Statements about every instruction as syntax, one lemma per constructor. -/

namespace Sys2Proof.Laws.Slots

open Sys2Proof

/-- An instruction fills two slots exactly when its opcode byte is 0x18, and one otherwise
(`30_encoding.md` R80, R89). -/
def Statement (i : Instr) : Prop :=
  (i.size = 1 ∨ i.size = 2) ∧ (i.size = 2 ↔ i.parts.1.opcode = 0x18)

/-- A basic instruction: no second slot, another opcode byte. -/
theorem basic (i : Instr) (op : BitVec 8) (h1 : i.parts.2 = none) (h2 : i.parts.1.opcode = op)
    (h3 : op ≠ 0x18) : Statement i := by
  have h : i.size = 1 := by simp [Instr.size, h1]
  exact ⟨.inl h, ⟨fun e => absurd (h.symm.trans e) (by decide), fun e => absurd (h2.symm.trans e) h3⟩⟩

/-- A wide instruction: a second slot, opcode byte 0x18. -/
theorem wide (i : Instr) (n : Half) (h1 : i.parts.2 = some n) (h2 : i.parts.1.opcode = 0x18) :
    Statement i := by
  simp [Statement, Instr.size, h1, h2]

theorem add32K (dst : Reg) (imm : Half) : Statement (.add32K dst imm) :=
  basic _ 0x04 rfl rfl (by decide)
theorem add32X (dst : Reg) (src : Reg) : Statement (.add32X dst src) :=
  basic _ 0x0c rfl rfl (by decide)
theorem sub32K (dst : Reg) (imm : Half) : Statement (.sub32K dst imm) :=
  basic _ 0x14 rfl rfl (by decide)
theorem sub32X (dst : Reg) (src : Reg) : Statement (.sub32X dst src) :=
  basic _ 0x1c rfl rfl (by decide)
theorem mul32K (dst : Reg) (imm : Half) : Statement (.mul32K dst imm) :=
  basic _ 0x24 rfl rfl (by decide)
theorem mul32X (dst : Reg) (src : Reg) : Statement (.mul32X dst src) :=
  basic _ 0x2c rfl rfl (by decide)
theorem div32K (dst : Reg) (imm : Half) : Statement (.div32K dst imm) :=
  basic _ 0x34 rfl rfl (by decide)
theorem div32X (dst : Reg) (src : Reg) : Statement (.div32X dst src) :=
  basic _ 0x3c rfl rfl (by decide)
theorem or32K (dst : Reg) (imm : Half) : Statement (.or32K dst imm) :=
  basic _ 0x44 rfl rfl (by decide)
theorem or32X (dst : Reg) (src : Reg) : Statement (.or32X dst src) :=
  basic _ 0x4c rfl rfl (by decide)
theorem and32K (dst : Reg) (imm : Half) : Statement (.and32K dst imm) :=
  basic _ 0x54 rfl rfl (by decide)
theorem and32X (dst : Reg) (src : Reg) : Statement (.and32X dst src) :=
  basic _ 0x5c rfl rfl (by decide)
theorem lsh32K (dst : Reg) (imm : Half) : Statement (.lsh32K dst imm) :=
  basic _ 0x64 rfl rfl (by decide)
theorem lsh32X (dst : Reg) (src : Reg) : Statement (.lsh32X dst src) :=
  basic _ 0x6c rfl rfl (by decide)
theorem rsh32K (dst : Reg) (imm : Half) : Statement (.rsh32K dst imm) :=
  basic _ 0x74 rfl rfl (by decide)
theorem rsh32X (dst : Reg) (src : Reg) : Statement (.rsh32X dst src) :=
  basic _ 0x7c rfl rfl (by decide)
theorem neg32 (dst : Reg) : Statement (.neg32 dst) :=
  basic _ 0x84 rfl rfl (by decide)
theorem mod32K (dst : Reg) (imm : Half) : Statement (.mod32K dst imm) :=
  basic _ 0x94 rfl rfl (by decide)
theorem mod32X (dst : Reg) (src : Reg) : Statement (.mod32X dst src) :=
  basic _ 0x9c rfl rfl (by decide)
theorem xor32K (dst : Reg) (imm : Half) : Statement (.xor32K dst imm) :=
  basic _ 0xa4 rfl rfl (by decide)
theorem xor32X (dst : Reg) (src : Reg) : Statement (.xor32X dst src) :=
  basic _ 0xac rfl rfl (by decide)
theorem mov32K (dst : Reg) (imm : Half) : Statement (.mov32K dst imm) :=
  basic _ 0xb4 rfl rfl (by decide)
theorem mov32X (dst : Reg) (src : Reg) : Statement (.mov32X dst src) :=
  basic _ 0xbc rfl rfl (by decide)
theorem arsh32K (dst : Reg) (imm : Half) : Statement (.arsh32K dst imm) :=
  basic _ 0xc4 rfl rfl (by decide)
theorem arsh32X (dst : Reg) (src : Reg) : Statement (.arsh32X dst src) :=
  basic _ 0xcc rfl rfl (by decide)
theorem add64K (dst : Reg) (imm : Half) : Statement (.add64K dst imm) :=
  basic _ 0x07 rfl rfl (by decide)
theorem add64X (dst : Reg) (src : Reg) : Statement (.add64X dst src) :=
  basic _ 0x0f rfl rfl (by decide)
theorem sub64K (dst : Reg) (imm : Half) : Statement (.sub64K dst imm) :=
  basic _ 0x17 rfl rfl (by decide)
theorem sub64X (dst : Reg) (src : Reg) : Statement (.sub64X dst src) :=
  basic _ 0x1f rfl rfl (by decide)
theorem mul64K (dst : Reg) (imm : Half) : Statement (.mul64K dst imm) :=
  basic _ 0x27 rfl rfl (by decide)
theorem mul64X (dst : Reg) (src : Reg) : Statement (.mul64X dst src) :=
  basic _ 0x2f rfl rfl (by decide)
theorem div64K (dst : Reg) (imm : Half) : Statement (.div64K dst imm) :=
  basic _ 0x37 rfl rfl (by decide)
theorem div64X (dst : Reg) (src : Reg) : Statement (.div64X dst src) :=
  basic _ 0x3f rfl rfl (by decide)
theorem or64K (dst : Reg) (imm : Half) : Statement (.or64K dst imm) :=
  basic _ 0x47 rfl rfl (by decide)
theorem or64X (dst : Reg) (src : Reg) : Statement (.or64X dst src) :=
  basic _ 0x4f rfl rfl (by decide)
theorem and64K (dst : Reg) (imm : Half) : Statement (.and64K dst imm) :=
  basic _ 0x57 rfl rfl (by decide)
theorem and64X (dst : Reg) (src : Reg) : Statement (.and64X dst src) :=
  basic _ 0x5f rfl rfl (by decide)
theorem lsh64K (dst : Reg) (imm : Half) : Statement (.lsh64K dst imm) :=
  basic _ 0x67 rfl rfl (by decide)
theorem lsh64X (dst : Reg) (src : Reg) : Statement (.lsh64X dst src) :=
  basic _ 0x6f rfl rfl (by decide)
theorem rsh64K (dst : Reg) (imm : Half) : Statement (.rsh64K dst imm) :=
  basic _ 0x77 rfl rfl (by decide)
theorem rsh64X (dst : Reg) (src : Reg) : Statement (.rsh64X dst src) :=
  basic _ 0x7f rfl rfl (by decide)
theorem neg64 (dst : Reg) : Statement (.neg64 dst) :=
  basic _ 0x87 rfl rfl (by decide)
theorem mod64K (dst : Reg) (imm : Half) : Statement (.mod64K dst imm) :=
  basic _ 0x97 rfl rfl (by decide)
theorem mod64X (dst : Reg) (src : Reg) : Statement (.mod64X dst src) :=
  basic _ 0x9f rfl rfl (by decide)
theorem xor64K (dst : Reg) (imm : Half) : Statement (.xor64K dst imm) :=
  basic _ 0xa7 rfl rfl (by decide)
theorem xor64X (dst : Reg) (src : Reg) : Statement (.xor64X dst src) :=
  basic _ 0xaf rfl rfl (by decide)
theorem mov64K (dst : Reg) (imm : Half) : Statement (.mov64K dst imm) :=
  basic _ 0xb7 rfl rfl (by decide)
theorem mov64X (dst : Reg) (src : Reg) : Statement (.mov64X dst src) :=
  basic _ 0xbf rfl rfl (by decide)
theorem arsh64K (dst : Reg) (imm : Half) : Statement (.arsh64K dst imm) :=
  basic _ 0xc7 rfl rfl (by decide)
theorem arsh64X (dst : Reg) (src : Reg) : Statement (.arsh64X dst src) :=
  basic _ 0xcf rfl rfl (by decide)
theorem le16 (dst : Reg) : Statement (.le16 dst) :=
  basic _ 0xd4 rfl rfl (by decide)
theorem le32 (dst : Reg) : Statement (.le32 dst) :=
  basic _ 0xd4 rfl rfl (by decide)
theorem le64 (dst : Reg) : Statement (.le64 dst) :=
  basic _ 0xd4 rfl rfl (by decide)
theorem be16 (dst : Reg) : Statement (.be16 dst) :=
  basic _ 0xdc rfl rfl (by decide)
theorem be32 (dst : Reg) : Statement (.be32 dst) :=
  basic _ 0xdc rfl rfl (by decide)
theorem be64 (dst : Reg) : Statement (.be64 dst) :=
  basic _ 0xdc rfl rfl (by decide)
theorem ja (offset : BitVec 16) : Statement (.ja offset) :=
  basic _ 0x05 rfl rfl (by decide)
theorem jeqK (dst : Reg) (offset : BitVec 16) (imm : Half) : Statement (.jeqK dst offset imm) :=
  basic _ 0x15 rfl rfl (by decide)
theorem jeqX (dst : Reg) (src : Reg) (offset : BitVec 16) : Statement (.jeqX dst src offset) :=
  basic _ 0x1d rfl rfl (by decide)
theorem jgtK (dst : Reg) (offset : BitVec 16) (imm : Half) : Statement (.jgtK dst offset imm) :=
  basic _ 0x25 rfl rfl (by decide)
theorem jgtX (dst : Reg) (src : Reg) (offset : BitVec 16) : Statement (.jgtX dst src offset) :=
  basic _ 0x2d rfl rfl (by decide)
theorem jgeK (dst : Reg) (offset : BitVec 16) (imm : Half) : Statement (.jgeK dst offset imm) :=
  basic _ 0x35 rfl rfl (by decide)
theorem jgeX (dst : Reg) (src : Reg) (offset : BitVec 16) : Statement (.jgeX dst src offset) :=
  basic _ 0x3d rfl rfl (by decide)
theorem jsetK (dst : Reg) (offset : BitVec 16) (imm : Half) : Statement (.jsetK dst offset imm) :=
  basic _ 0x45 rfl rfl (by decide)
theorem jsetX (dst : Reg) (src : Reg) (offset : BitVec 16) : Statement (.jsetX dst src offset) :=
  basic _ 0x4d rfl rfl (by decide)
theorem jneK (dst : Reg) (offset : BitVec 16) (imm : Half) : Statement (.jneK dst offset imm) :=
  basic _ 0x55 rfl rfl (by decide)
theorem jneX (dst : Reg) (src : Reg) (offset : BitVec 16) : Statement (.jneX dst src offset) :=
  basic _ 0x5d rfl rfl (by decide)
theorem jsgtK (dst : Reg) (offset : BitVec 16) (imm : Half) : Statement (.jsgtK dst offset imm) :=
  basic _ 0x65 rfl rfl (by decide)
theorem jsgtX (dst : Reg) (src : Reg) (offset : BitVec 16) : Statement (.jsgtX dst src offset) :=
  basic _ 0x6d rfl rfl (by decide)
theorem jsgeK (dst : Reg) (offset : BitVec 16) (imm : Half) : Statement (.jsgeK dst offset imm) :=
  basic _ 0x75 rfl rfl (by decide)
theorem jsgeX (dst : Reg) (src : Reg) (offset : BitVec 16) : Statement (.jsgeX dst src offset) :=
  basic _ 0x7d rfl rfl (by decide)
theorem jltK (dst : Reg) (offset : BitVec 16) (imm : Half) : Statement (.jltK dst offset imm) :=
  basic _ 0xa5 rfl rfl (by decide)
theorem jltX (dst : Reg) (src : Reg) (offset : BitVec 16) : Statement (.jltX dst src offset) :=
  basic _ 0xad rfl rfl (by decide)
theorem jleK (dst : Reg) (offset : BitVec 16) (imm : Half) : Statement (.jleK dst offset imm) :=
  basic _ 0xb5 rfl rfl (by decide)
theorem jleX (dst : Reg) (src : Reg) (offset : BitVec 16) : Statement (.jleX dst src offset) :=
  basic _ 0xbd rfl rfl (by decide)
theorem jsltK (dst : Reg) (offset : BitVec 16) (imm : Half) : Statement (.jsltK dst offset imm) :=
  basic _ 0xc5 rfl rfl (by decide)
theorem jsltX (dst : Reg) (src : Reg) (offset : BitVec 16) : Statement (.jsltX dst src offset) :=
  basic _ 0xcd rfl rfl (by decide)
theorem jsleK (dst : Reg) (offset : BitVec 16) (imm : Half) : Statement (.jsleK dst offset imm) :=
  basic _ 0xd5 rfl rfl (by decide)
theorem jsleX (dst : Reg) (src : Reg) (offset : BitVec 16) : Statement (.jsleX dst src offset) :=
  basic _ 0xdd rfl rfl (by decide)
theorem jeq32K (dst : Reg) (offset : BitVec 16) (imm : Half) : Statement (.jeq32K dst offset imm) :=
  basic _ 0x16 rfl rfl (by decide)
theorem jeq32X (dst : Reg) (src : Reg) (offset : BitVec 16) : Statement (.jeq32X dst src offset) :=
  basic _ 0x1e rfl rfl (by decide)
theorem jgt32K (dst : Reg) (offset : BitVec 16) (imm : Half) : Statement (.jgt32K dst offset imm) :=
  basic _ 0x26 rfl rfl (by decide)
theorem jgt32X (dst : Reg) (src : Reg) (offset : BitVec 16) : Statement (.jgt32X dst src offset) :=
  basic _ 0x2e rfl rfl (by decide)
theorem jge32K (dst : Reg) (offset : BitVec 16) (imm : Half) : Statement (.jge32K dst offset imm) :=
  basic _ 0x36 rfl rfl (by decide)
theorem jge32X (dst : Reg) (src : Reg) (offset : BitVec 16) : Statement (.jge32X dst src offset) :=
  basic _ 0x3e rfl rfl (by decide)
theorem jset32K (dst : Reg) (offset : BitVec 16) (imm : Half) : Statement (.jset32K dst offset imm) :=
  basic _ 0x46 rfl rfl (by decide)
theorem jset32X (dst : Reg) (src : Reg) (offset : BitVec 16) : Statement (.jset32X dst src offset) :=
  basic _ 0x4e rfl rfl (by decide)
theorem jne32K (dst : Reg) (offset : BitVec 16) (imm : Half) : Statement (.jne32K dst offset imm) :=
  basic _ 0x56 rfl rfl (by decide)
theorem jne32X (dst : Reg) (src : Reg) (offset : BitVec 16) : Statement (.jne32X dst src offset) :=
  basic _ 0x5e rfl rfl (by decide)
theorem jsgt32K (dst : Reg) (offset : BitVec 16) (imm : Half) : Statement (.jsgt32K dst offset imm) :=
  basic _ 0x66 rfl rfl (by decide)
theorem jsgt32X (dst : Reg) (src : Reg) (offset : BitVec 16) : Statement (.jsgt32X dst src offset) :=
  basic _ 0x6e rfl rfl (by decide)
theorem jsge32K (dst : Reg) (offset : BitVec 16) (imm : Half) : Statement (.jsge32K dst offset imm) :=
  basic _ 0x76 rfl rfl (by decide)
theorem jsge32X (dst : Reg) (src : Reg) (offset : BitVec 16) : Statement (.jsge32X dst src offset) :=
  basic _ 0x7e rfl rfl (by decide)
theorem jlt32K (dst : Reg) (offset : BitVec 16) (imm : Half) : Statement (.jlt32K dst offset imm) :=
  basic _ 0xa6 rfl rfl (by decide)
theorem jlt32X (dst : Reg) (src : Reg) (offset : BitVec 16) : Statement (.jlt32X dst src offset) :=
  basic _ 0xae rfl rfl (by decide)
theorem jle32K (dst : Reg) (offset : BitVec 16) (imm : Half) : Statement (.jle32K dst offset imm) :=
  basic _ 0xb6 rfl rfl (by decide)
theorem jle32X (dst : Reg) (src : Reg) (offset : BitVec 16) : Statement (.jle32X dst src offset) :=
  basic _ 0xbe rfl rfl (by decide)
theorem jslt32K (dst : Reg) (offset : BitVec 16) (imm : Half) : Statement (.jslt32K dst offset imm) :=
  basic _ 0xc6 rfl rfl (by decide)
theorem jslt32X (dst : Reg) (src : Reg) (offset : BitVec 16) : Statement (.jslt32X dst src offset) :=
  basic _ 0xce rfl rfl (by decide)
theorem jsle32K (dst : Reg) (offset : BitVec 16) (imm : Half) : Statement (.jsle32K dst offset imm) :=
  basic _ 0xd6 rfl rfl (by decide)
theorem jsle32X (dst : Reg) (src : Reg) (offset : BitVec 16) : Statement (.jsle32X dst src offset) :=
  basic _ 0xde rfl rfl (by decide)
theorem callHelper (imm : Half) : Statement (.callHelper imm) :=
  basic _ 0x85 rfl rfl (by decide)
theorem callLocal (offset : BitVec 16) (imm : Half) : Statement (.callLocal offset imm) :=
  basic _ 0x85 rfl rfl (by decide)
theorem callHelperSpecific (imm : Half) : Statement (.callHelperSpecific imm) :=
  basic _ 0x85 rfl rfl (by decide)
theorem exit : Statement (.exit) :=
  basic _ 0x95 rfl rfl (by decide)
theorem ldxw (dst : Reg) (src : Reg) (offset : BitVec 16) : Statement (.ldxw dst src offset) :=
  basic _ 0x61 rfl rfl (by decide)
theorem ldxh (dst : Reg) (src : Reg) (offset : BitVec 16) : Statement (.ldxh dst src offset) :=
  basic _ 0x69 rfl rfl (by decide)
theorem ldxb (dst : Reg) (src : Reg) (offset : BitVec 16) : Statement (.ldxb dst src offset) :=
  basic _ 0x71 rfl rfl (by decide)
theorem ldxdw (dst : Reg) (src : Reg) (offset : BitVec 16) : Statement (.ldxdw dst src offset) :=
  basic _ 0x79 rfl rfl (by decide)
theorem stw (dst : Reg) (offset : BitVec 16) (imm : Half) : Statement (.stw dst offset imm) :=
  basic _ 0x62 rfl rfl (by decide)
theorem sth (dst : Reg) (offset : BitVec 16) (imm : Half) : Statement (.sth dst offset imm) :=
  basic _ 0x6a rfl rfl (by decide)
theorem stb (dst : Reg) (offset : BitVec 16) (imm : Half) : Statement (.stb dst offset imm) :=
  basic _ 0x72 rfl rfl (by decide)
theorem stdw (dst : Reg) (offset : BitVec 16) (imm : Half) : Statement (.stdw dst offset imm) :=
  basic _ 0x7a rfl rfl (by decide)
theorem stxw (dst : Reg) (src : Reg) (offset : BitVec 16) : Statement (.stxw dst src offset) :=
  basic _ 0x63 rfl rfl (by decide)
theorem stxh (dst : Reg) (src : Reg) (offset : BitVec 16) : Statement (.stxh dst src offset) :=
  basic _ 0x6b rfl rfl (by decide)
theorem stxb (dst : Reg) (src : Reg) (offset : BitVec 16) : Statement (.stxb dst src offset) :=
  basic _ 0x73 rfl rfl (by decide)
theorem stxdw (dst : Reg) (src : Reg) (offset : BitVec 16) : Statement (.stxdw dst src offset) :=
  basic _ 0x7b rfl rfl (by decide)
theorem atomicAdd32 (dst : Reg) (src : Reg) (offset : BitVec 16) : Statement (.atomicAdd32 dst src offset) :=
  basic _ 0xc3 rfl rfl (by decide)
theorem atomicFetchAdd32 (dst : Reg) (src : Reg) (offset : BitVec 16) : Statement (.atomicFetchAdd32 dst src offset) :=
  basic _ 0xc3 rfl rfl (by decide)
theorem atomicOr32 (dst : Reg) (src : Reg) (offset : BitVec 16) : Statement (.atomicOr32 dst src offset) :=
  basic _ 0xc3 rfl rfl (by decide)
theorem atomicFetchOr32 (dst : Reg) (src : Reg) (offset : BitVec 16) : Statement (.atomicFetchOr32 dst src offset) :=
  basic _ 0xc3 rfl rfl (by decide)
theorem atomicAnd32 (dst : Reg) (src : Reg) (offset : BitVec 16) : Statement (.atomicAnd32 dst src offset) :=
  basic _ 0xc3 rfl rfl (by decide)
theorem atomicFetchAnd32 (dst : Reg) (src : Reg) (offset : BitVec 16) : Statement (.atomicFetchAnd32 dst src offset) :=
  basic _ 0xc3 rfl rfl (by decide)
theorem atomicXor32 (dst : Reg) (src : Reg) (offset : BitVec 16) : Statement (.atomicXor32 dst src offset) :=
  basic _ 0xc3 rfl rfl (by decide)
theorem atomicFetchXor32 (dst : Reg) (src : Reg) (offset : BitVec 16) : Statement (.atomicFetchXor32 dst src offset) :=
  basic _ 0xc3 rfl rfl (by decide)
theorem atomicXchg32 (dst : Reg) (src : Reg) (offset : BitVec 16) : Statement (.atomicXchg32 dst src offset) :=
  basic _ 0xc3 rfl rfl (by decide)
theorem atomicCmpxchg32 (dst : Reg) (src : Reg) (offset : BitVec 16) : Statement (.atomicCmpxchg32 dst src offset) :=
  basic _ 0xc3 rfl rfl (by decide)
theorem atomicAdd64 (dst : Reg) (src : Reg) (offset : BitVec 16) : Statement (.atomicAdd64 dst src offset) :=
  basic _ 0xdb rfl rfl (by decide)
theorem atomicFetchAdd64 (dst : Reg) (src : Reg) (offset : BitVec 16) : Statement (.atomicFetchAdd64 dst src offset) :=
  basic _ 0xdb rfl rfl (by decide)
theorem atomicOr64 (dst : Reg) (src : Reg) (offset : BitVec 16) : Statement (.atomicOr64 dst src offset) :=
  basic _ 0xdb rfl rfl (by decide)
theorem atomicFetchOr64 (dst : Reg) (src : Reg) (offset : BitVec 16) : Statement (.atomicFetchOr64 dst src offset) :=
  basic _ 0xdb rfl rfl (by decide)
theorem atomicAnd64 (dst : Reg) (src : Reg) (offset : BitVec 16) : Statement (.atomicAnd64 dst src offset) :=
  basic _ 0xdb rfl rfl (by decide)
theorem atomicFetchAnd64 (dst : Reg) (src : Reg) (offset : BitVec 16) : Statement (.atomicFetchAnd64 dst src offset) :=
  basic _ 0xdb rfl rfl (by decide)
theorem atomicXor64 (dst : Reg) (src : Reg) (offset : BitVec 16) : Statement (.atomicXor64 dst src offset) :=
  basic _ 0xdb rfl rfl (by decide)
theorem atomicFetchXor64 (dst : Reg) (src : Reg) (offset : BitVec 16) : Statement (.atomicFetchXor64 dst src offset) :=
  basic _ 0xdb rfl rfl (by decide)
theorem atomicXchg64 (dst : Reg) (src : Reg) (offset : BitVec 16) : Statement (.atomicXchg64 dst src offset) :=
  basic _ 0xdb rfl rfl (by decide)
theorem atomicCmpxchg64 (dst : Reg) (src : Reg) (offset : BitVec 16) : Statement (.atomicCmpxchg64 dst src offset) :=
  basic _ 0xdb rfl rfl (by decide)
theorem lddw (dst : Reg) (imm : Half) (nextImm : Half) : Statement (.lddw dst imm nextImm) :=
  wide _ _ rfl rfl
theorem ldMapFd (dst : Reg) (imm : Half) : Statement (.ldMapFd dst imm) :=
  wide _ _ rfl rfl
theorem ldMapValueFd (dst : Reg) (imm : Half) (nextImm : Half) : Statement (.ldMapValueFd dst imm nextImm) :=
  wide _ _ rfl rfl
theorem ldVarAddr (dst : Reg) (imm : Half) : Statement (.ldVarAddr dst imm) :=
  wide _ _ rfl rfl
theorem ldCodeAddr (dst : Reg) (imm : Half) : Statement (.ldCodeAddr dst imm) :=
  wide _ _ rfl rfl
theorem ldMapIdx (dst : Reg) (imm : Half) : Statement (.ldMapIdx dst imm) :=
  wide _ _ rfl rfl
theorem ldMapValueIdx (dst : Reg) (imm : Half) (nextImm : Half) : Statement (.ldMapValueIdx dst imm nextImm) :=
  wide _ _ rfl rfl
theorem ldAbsW (dst : BitVec 4) (src : BitVec 4) (offset : BitVec 16) (imm : Half) : Statement (.ldAbsW dst src offset imm) :=
  basic _ 0x20 rfl rfl (by decide)
theorem ldAbsH (dst : BitVec 4) (src : BitVec 4) (offset : BitVec 16) (imm : Half) : Statement (.ldAbsH dst src offset imm) :=
  basic _ 0x28 rfl rfl (by decide)
theorem ldAbsB (dst : BitVec 4) (src : BitVec 4) (offset : BitVec 16) (imm : Half) : Statement (.ldAbsB dst src offset imm) :=
  basic _ 0x30 rfl rfl (by decide)
theorem ldAbsDw (dst : BitVec 4) (src : BitVec 4) (offset : BitVec 16) (imm : Half) : Statement (.ldAbsDw dst src offset imm) :=
  basic _ 0x38 rfl rfl (by decide)
theorem ldIndW (dst : BitVec 4) (src : BitVec 4) (offset : BitVec 16) (imm : Half) : Statement (.ldIndW dst src offset imm) :=
  basic _ 0x40 rfl rfl (by decide)
theorem ldIndH (dst : BitVec 4) (src : BitVec 4) (offset : BitVec 16) (imm : Half) : Statement (.ldIndH dst src offset imm) :=
  basic _ 0x48 rfl rfl (by decide)
theorem ldIndB (dst : BitVec 4) (src : BitVec 4) (offset : BitVec 16) (imm : Half) : Statement (.ldIndB dst src offset imm) :=
  basic _ 0x50 rfl rfl (by decide)
theorem ldIndDw (dst : BitVec 4) (src : BitVec 4) (offset : BitVec 16) (imm : Half) : Statement (.ldIndDw dst src offset imm) :=
  basic _ 0x58 rfl rfl (by decide)

end Sys2Proof.Laws.Slots
end

