-- ==== Sys2Proof/Tests/Slice0.lean ====
section
/-! SUPPORT. The model's own tests. The expected results come from `spec/`: the *Example* line of each
instruction's rule (bytes in both byte orders, registers and memory before and after), the vectors
of `95_test_vectors.md` and `96_test_vectors_memory.md` where a test names one, and ill-formed
terms for `WellFormed`. The last part has, for every statement with hypotheses, a state and
operands that meet them. -/

namespace Sys2Proof.Tests

set_option Elab.async false

open Sys2Proof Sys2Proof.Machine

/-- The slots of a list of byte values, 8 to a slot. -/
def slotsOf (bytes : List Nat) : List Slot :=
  (slotsOfBytes (bytes.map (BitVec.ofNat 8))).getD []

/-- The bytes decode to the instruction under the default `cfg.LOCAL_CALL_FIELD`. -/
def decodesTo (e : Endian) (bytes : List Nat) (i : Instr) : Bool :=
  match decodeSlots e .offset (slotsOf bytes) with
  | .ok j => decide (j = i) && decide (encode e i = slotsOf bytes)
  | .error _ => false

/-- The bytes do not decode, for the reason. -/
def refusedFor (e : Endian) (bytes : List Nat) (r : DecodeReason) : Bool :=
  match decodeSlots e .offset (slotsOf bytes) with
  | .ok _ => false
  | .error q => decide (q = r)

/-- The conventions of `95_test_vectors.md`: entry with no arguments, in a byte order, with registers and
bytes set and an instruction at `pc`. -/
def probe (e : Endian) (pc : Nat) (regs : List (Reg × Word)) (mem : List (Nat × List Nat))
    (bytes : List Nat) : State :=
  let c := { Config.default with endian := e }
  let s := State.entry c [] []
  withSlots
    { s with
      pc := pc,
      regs := regs.foldl (fun x p => x.set p.1 (.value p.2)) s.regs,
      mem := mem.foldl (fun m p => Memory.writeBytes m p.1 (p.2.map (BitVec.ofNat 8))) [] }
    (slotsOf bytes)

/-- A worked example of the spec: the bytes, the instruction they are, the state before and after. -/
structure SpecExample where
  bytes : List Nat
  instr : Instr
  pc : Nat
  regs : List (Reg × Word)
  mem : List (Nat × List Nat)
  afterPc : Nat
  afterRegs : List (Reg × Word)
  afterMem : List (Nat × List Nat)

/-- The bytes decode as the example says, and the step gives the state after it. -/
def SpecExample.holds (e : Endian) (x : SpecExample) : Bool :=
  decodesTo e x.bytes x.instr &&
    match step (probe e x.pc x.regs x.mem x.bytes) with
    | .next t =>
      decide (t.pc = x.afterPc) && decide (t.status = .running)
        && x.afterRegs.all (fun p => decide (t.regs.get p.1 = .value p.2))
        && x.afterMem.all (fun p =>
            decide (Memory.readBytes t.mem p.1 p.2.length = some (p.2.map (BitVec.ofNat 8))))
    | _ => false

/-- The step raises the fault and changes nothing else (but that one turn of other agents is counted). -/
def raises (s : State) (f : FaultInfo) : Bool :=
  match step s with
  | .next t => decide (t = { s with status := .faulted f, turns := s.turns + 1 })
  | _ => false

/-! ### The worked examples of the rules, both byte orders -/

def alu32_little : List SpecExample := [
  ⟨[0x04, 0x01, 0x00, 0x00, 0x01, 0x00, 0x00, 0x00], .add32K .r1 1,
    4, [(.r1, 0xffffffffffffffff)], [], 5, [(.r1, 0x0000000000000000)], []⟩,
  ⟨[0x0c, 0x21, 0x00, 0x00, 0x00, 0x00, 0x00, 0x00], .add32X .r1 .r2,
    4, [(.r1, 0x0000000180000000), (.r2, 0xffffffff80000000)], [], 5, [(.r1, 0x0000000000000000)], []⟩,
  ⟨[0x14, 0x01, 0x00, 0x00, 0x01, 0x00, 0x00, 0x00], .sub32K .r1 1,
    4, [(.r1, 0x0000000000000000)], [], 5, [(.r1, 0x00000000ffffffff)], []⟩,
  ⟨[0x1c, 0x21, 0x00, 0x00, 0x00, 0x00, 0x00, 0x00], .sub32X .r1 .r2,
    4, [(.r1, 0x0000000000000005), (.r2, 0x0000000000000007)], [], 5, [(.r1, 0x00000000fffffffe)], []⟩,
  ⟨[0x24, 0x01, 0x00, 0x00, 0x00, 0x00, 0x01, 0x00], .mul32K .r1 65536,
    4, [(.r1, 0x0000000000010000)], [], 5, [(.r1, 0x0000000000000000)], []⟩,
  ⟨[0x2c, 0x21, 0x00, 0x00, 0x00, 0x00, 0x00, 0x00], .mul32X .r1 .r2,
    4, [(.r1, 0x00000000ffffffff), (.r2, 0x00000000ffffffff)], [], 5, [(.r1, 0x0000000000000001)], []⟩,
  ⟨[0x34, 0x01, 0x00, 0x00, 0xff, 0xff, 0xff, 0xff], .div32K .r1 (-1),
    4, [(.r1, 0xfffffffffffffffe)], [], 5, [(.r1, 0x0000000000000000)], []⟩,
  ⟨[0x3c, 0x21, 0x00, 0x00, 0x00, 0x00, 0x00, 0x00], .div32X .r1 .r2,
    4, [(.r1, 0x0000000100000007), (.r2, 0x0000000500000000)], [], 5, [(.r1, 0x0000000000000000)], []⟩,
  ⟨[0x44, 0x01, 0x00, 0x00, 0x0f, 0x00, 0x00, 0x00], .or32K .r1 15,
    4, [(.r1, 0xffffffff00000000)], [], 5, [(.r1, 0x000000000000000f)], []⟩,
  ⟨[0x4c, 0x21, 0x00, 0x00, 0x00, 0x00, 0x00, 0x00], .or32X .r1 .r2,
    4, [(.r1, 0xffffffff000000f0), (.r2, 0xaaaaaaaa0000000f)], [], 5, [(.r1, 0x00000000000000ff)], []⟩,
  ⟨[0x54, 0x01, 0x00, 0x00, 0xff, 0xff, 0xff, 0xff], .and32K .r1 (-1),
    4, [(.r1, 0xffffffffffffffff)], [], 5, [(.r1, 0x00000000ffffffff)], []⟩,
  ⟨[0x5c, 0x21, 0x00, 0x00, 0x00, 0x00, 0x00, 0x00], .and32X .r1 .r2,
    4, [(.r1, 0x123456789abcdef0), (.r2, 0xffffffff0000ffff)], [], 5, [(.r1, 0x000000000000def0)], []⟩,
  ⟨[0x64, 0x01, 0x00, 0x00, 0x01, 0x00, 0x00, 0x00], .lsh32K .r1 1,
    4, [(.r1, 0xffffffff80000001)], [], 5, [(.r1, 0x0000000000000002)], []⟩,
  ⟨[0x6c, 0x21, 0x00, 0x00, 0x00, 0x00, 0x00, 0x00], .lsh32X .r1 .r2,
    4, [(.r1, 0x0000000000000001), (.r2, 0x000000000000001f)], [], 5, [(.r1, 0x0000000080000000)], []⟩,
  ⟨[0x74, 0x01, 0x00, 0x00, 0x1f, 0x00, 0x00, 0x00], .rsh32K .r1 31,
    4, [(.r1, 0xffffffff80000000)], [], 5, [(.r1, 0x0000000000000001)], []⟩,
  ⟨[0x7c, 0x21, 0x00, 0x00, 0x00, 0x00, 0x00, 0x00], .rsh32X .r1 .r2,
    4, [(.r1, 0x1234567880000000), (.r2, 0x0000000000000004)], [], 5, [(.r1, 0x0000000008000000)], []⟩,
  ⟨[0x84, 0x01, 0x00, 0x00, 0x00, 0x00, 0x00, 0x00], .neg32 .r1,
    4, [(.r1, 0x0000000000000001)], [], 5, [(.r1, 0x00000000ffffffff)], []⟩,
  ⟨[0x94, 0x01, 0x00, 0x00, 0x03, 0x00, 0x00, 0x00], .mod32K .r1 3,
    4, [(.r1, 0xffffffff0000000a)], [], 5, [(.r1, 0x0000000000000001)], []⟩,
  ⟨[0x9c, 0x21, 0x00, 0x00, 0x00, 0x00, 0x00, 0x00], .mod32X .r1 .r2,
    4, [(.r1, 0x1234567800000007), (.r2, 0x0000000000000000)], [], 5, [(.r1, 0x0000000000000007)], []⟩,
  ⟨[0xa4, 0x01, 0x00, 0x00, 0xff, 0xff, 0xff, 0xff], .xor32K .r1 (-1),
    4, [(.r1, 0xffffffffffffffff)], [], 5, [(.r1, 0x0000000000000000)], []⟩,
  ⟨[0xac, 0x21, 0x00, 0x00, 0x00, 0x00, 0x00, 0x00], .xor32X .r1 .r2,
    4, [(.r1, 0xffffffff0f0f0f0f), (.r2, 0x00000000ffffffff)], [], 5, [(.r1, 0x00000000f0f0f0f0)], []⟩,
  ⟨[0xb4, 0x01, 0x00, 0x00, 0xff, 0xff, 0xff, 0xff], .mov32K .r1 (-1),
    4, [], [], 5, [(.r1, 0x00000000ffffffff)], []⟩,
  ⟨[0xbc, 0x21, 0x00, 0x00, 0x00, 0x00, 0x00, 0x00], .mov32X .r1 .r2,
    4, [(.r2, 0x1122334455667788)], [], 5, [(.r1, 0x0000000055667788)], []⟩,
  ⟨[0xc4, 0x01, 0x00, 0x00, 0x04, 0x00, 0x00, 0x00], .arsh32K .r1 4,
    4, [(.r1, 0x0000000080000000)], [], 5, [(.r1, 0x00000000f8000000)], []⟩,
  ⟨[0xcc, 0x21, 0x00, 0x00, 0x00, 0x00, 0x00, 0x00], .arsh32X .r1 .r2,
    4, [(.r1, 0xffffffff7fffffff), (.r2, 0x000000000000001f)], [], 5, [(.r1, 0x0000000000000000)], []⟩]

theorem test_alu32_little : (alu32_little.all (SpecExample.holds .little)) = true := by decide +kernel

def alu32_big : List SpecExample := [
  ⟨[0x04, 0x10, 0x00, 0x00, 0x00, 0x00, 0x00, 0x01], .add32K .r1 1,
    4, [(.r1, 0xffffffffffffffff)], [], 5, [(.r1, 0x0000000000000000)], []⟩,
  ⟨[0x0c, 0x12, 0x00, 0x00, 0x00, 0x00, 0x00, 0x00], .add32X .r1 .r2,
    4, [(.r1, 0x0000000180000000), (.r2, 0xffffffff80000000)], [], 5, [(.r1, 0x0000000000000000)], []⟩,
  ⟨[0x14, 0x10, 0x00, 0x00, 0x00, 0x00, 0x00, 0x01], .sub32K .r1 1,
    4, [(.r1, 0x0000000000000000)], [], 5, [(.r1, 0x00000000ffffffff)], []⟩,
  ⟨[0x1c, 0x12, 0x00, 0x00, 0x00, 0x00, 0x00, 0x00], .sub32X .r1 .r2,
    4, [(.r1, 0x0000000000000005), (.r2, 0x0000000000000007)], [], 5, [(.r1, 0x00000000fffffffe)], []⟩,
  ⟨[0x24, 0x10, 0x00, 0x00, 0x00, 0x01, 0x00, 0x00], .mul32K .r1 65536,
    4, [(.r1, 0x0000000000010000)], [], 5, [(.r1, 0x0000000000000000)], []⟩,
  ⟨[0x2c, 0x12, 0x00, 0x00, 0x00, 0x00, 0x00, 0x00], .mul32X .r1 .r2,
    4, [(.r1, 0x00000000ffffffff), (.r2, 0x00000000ffffffff)], [], 5, [(.r1, 0x0000000000000001)], []⟩,
  ⟨[0x34, 0x10, 0x00, 0x00, 0xff, 0xff, 0xff, 0xff], .div32K .r1 (-1),
    4, [(.r1, 0xfffffffffffffffe)], [], 5, [(.r1, 0x0000000000000000)], []⟩,
  ⟨[0x3c, 0x12, 0x00, 0x00, 0x00, 0x00, 0x00, 0x00], .div32X .r1 .r2,
    4, [(.r1, 0x0000000100000007), (.r2, 0x0000000500000000)], [], 5, [(.r1, 0x0000000000000000)], []⟩,
  ⟨[0x44, 0x10, 0x00, 0x00, 0x00, 0x00, 0x00, 0x0f], .or32K .r1 15,
    4, [(.r1, 0xffffffff00000000)], [], 5, [(.r1, 0x000000000000000f)], []⟩,
  ⟨[0x4c, 0x12, 0x00, 0x00, 0x00, 0x00, 0x00, 0x00], .or32X .r1 .r2,
    4, [(.r1, 0xffffffff000000f0), (.r2, 0xaaaaaaaa0000000f)], [], 5, [(.r1, 0x00000000000000ff)], []⟩,
  ⟨[0x54, 0x10, 0x00, 0x00, 0xff, 0xff, 0xff, 0xff], .and32K .r1 (-1),
    4, [(.r1, 0xffffffffffffffff)], [], 5, [(.r1, 0x00000000ffffffff)], []⟩,
  ⟨[0x5c, 0x12, 0x00, 0x00, 0x00, 0x00, 0x00, 0x00], .and32X .r1 .r2,
    4, [(.r1, 0x123456789abcdef0), (.r2, 0xffffffff0000ffff)], [], 5, [(.r1, 0x000000000000def0)], []⟩,
  ⟨[0x64, 0x10, 0x00, 0x00, 0x00, 0x00, 0x00, 0x01], .lsh32K .r1 1,
    4, [(.r1, 0xffffffff80000001)], [], 5, [(.r1, 0x0000000000000002)], []⟩,
  ⟨[0x6c, 0x12, 0x00, 0x00, 0x00, 0x00, 0x00, 0x00], .lsh32X .r1 .r2,
    4, [(.r1, 0x0000000000000001), (.r2, 0x000000000000001f)], [], 5, [(.r1, 0x0000000080000000)], []⟩,
  ⟨[0x74, 0x10, 0x00, 0x00, 0x00, 0x00, 0x00, 0x1f], .rsh32K .r1 31,
    4, [(.r1, 0xffffffff80000000)], [], 5, [(.r1, 0x0000000000000001)], []⟩,
  ⟨[0x7c, 0x12, 0x00, 0x00, 0x00, 0x00, 0x00, 0x00], .rsh32X .r1 .r2,
    4, [(.r1, 0x1234567880000000), (.r2, 0x0000000000000004)], [], 5, [(.r1, 0x0000000008000000)], []⟩,
  ⟨[0x84, 0x10, 0x00, 0x00, 0x00, 0x00, 0x00, 0x00], .neg32 .r1,
    4, [(.r1, 0x0000000000000001)], [], 5, [(.r1, 0x00000000ffffffff)], []⟩,
  ⟨[0x94, 0x10, 0x00, 0x00, 0x00, 0x00, 0x00, 0x03], .mod32K .r1 3,
    4, [(.r1, 0xffffffff0000000a)], [], 5, [(.r1, 0x0000000000000001)], []⟩,
  ⟨[0x9c, 0x12, 0x00, 0x00, 0x00, 0x00, 0x00, 0x00], .mod32X .r1 .r2,
    4, [(.r1, 0x1234567800000007), (.r2, 0x0000000000000000)], [], 5, [(.r1, 0x0000000000000007)], []⟩,
  ⟨[0xa4, 0x10, 0x00, 0x00, 0xff, 0xff, 0xff, 0xff], .xor32K .r1 (-1),
    4, [(.r1, 0xffffffffffffffff)], [], 5, [(.r1, 0x0000000000000000)], []⟩,
  ⟨[0xac, 0x12, 0x00, 0x00, 0x00, 0x00, 0x00, 0x00], .xor32X .r1 .r2,
    4, [(.r1, 0xffffffff0f0f0f0f), (.r2, 0x00000000ffffffff)], [], 5, [(.r1, 0x00000000f0f0f0f0)], []⟩,
  ⟨[0xb4, 0x10, 0x00, 0x00, 0xff, 0xff, 0xff, 0xff], .mov32K .r1 (-1),
    4, [], [], 5, [(.r1, 0x00000000ffffffff)], []⟩,
  ⟨[0xbc, 0x12, 0x00, 0x00, 0x00, 0x00, 0x00, 0x00], .mov32X .r1 .r2,
    4, [(.r2, 0x1122334455667788)], [], 5, [(.r1, 0x0000000055667788)], []⟩,
  ⟨[0xc4, 0x10, 0x00, 0x00, 0x00, 0x00, 0x00, 0x04], .arsh32K .r1 4,
    4, [(.r1, 0x0000000080000000)], [], 5, [(.r1, 0x00000000f8000000)], []⟩,
  ⟨[0xcc, 0x12, 0x00, 0x00, 0x00, 0x00, 0x00, 0x00], .arsh32X .r1 .r2,
    4, [(.r1, 0xffffffff7fffffff), (.r2, 0x000000000000001f)], [], 5, [(.r1, 0x0000000000000000)], []⟩]

theorem test_alu32_big : (alu32_big.all (SpecExample.holds .big)) = true := by decide +kernel

def alu64_little : List SpecExample := [
  ⟨[0x07, 0x01, 0x00, 0x00, 0xff, 0xff, 0xff, 0xff], .add64K .r1 (-1),
    4, [(.r1, 0x0000000000000000)], [], 5, [(.r1, 0xffffffffffffffff)], []⟩,
  ⟨[0x0f, 0x21, 0x00, 0x00, 0x00, 0x00, 0x00, 0x00], .add64X .r1 .r2,
    4, [(.r1, 0xffffffffffffffff), (.r2, 0x0000000000000002)], [], 5, [(.r1, 0x0000000000000001)], []⟩,
  ⟨[0x17, 0x01, 0x00, 0x00, 0x01, 0x00, 0x00, 0x00], .sub64K .r1 1,
    4, [(.r1, 0x0000000000000000)], [], 5, [(.r1, 0xffffffffffffffff)], []⟩,
  ⟨[0x1f, 0x21, 0x00, 0x00, 0x00, 0x00, 0x00, 0x00], .sub64X .r1 .r2,
    4, [(.r1, 0x8000000000000000), (.r2, 0x0000000000000001)], [], 5, [(.r1, 0x7fffffffffffffff)], []⟩,
  ⟨[0x27, 0x01, 0x00, 0x00, 0xfe, 0xff, 0xff, 0xff], .mul64K .r1 (-2),
    4, [(.r1, 0x0000000100000000)], [], 5, [(.r1, 0xfffffffe00000000)], []⟩,
  ⟨[0x2f, 0x21, 0x00, 0x00, 0x00, 0x00, 0x00, 0x00], .mul64X .r1 .r2,
    4, [(.r1, 0xffffffffffffffff), (.r2, 0xffffffffffffffff)], [], 5, [(.r1, 0x0000000000000001)], []⟩,
  ⟨[0x37, 0x01, 0x00, 0x00, 0x02, 0x00, 0x00, 0x00], .div64K .r1 2,
    4, [(.r1, 0xfffffffffffffffe)], [], 5, [(.r1, 0x7fffffffffffffff)], []⟩,
  ⟨[0x3f, 0x21, 0x00, 0x00, 0x00, 0x00, 0x00, 0x00], .div64X .r1 .r2,
    4, [(.r1, 0x0000000000000007), (.r2, 0x0000000000000000)], [], 5, [(.r1, 0x0000000000000000)], []⟩,
  ⟨[0x47, 0x01, 0x00, 0x00, 0x00, 0x00, 0x00, 0x80], .or64K .r1 (-2147483648),
    4, [(.r1, 0x0000000000000000)], [], 5, [(.r1, 0xffffffff80000000)], []⟩,
  ⟨[0x4f, 0x21, 0x00, 0x00, 0x00, 0x00, 0x00, 0x00], .or64X .r1 .r2,
    4, [(.r1, 0x00000000000000ff), (.r2, 0x000000000000ff00)], [], 5, [(.r1, 0x000000000000ffff)], []⟩,
  ⟨[0x57, 0x01, 0x00, 0x00, 0xff, 0xff, 0xff, 0x7f], .and64K .r1 2147483647,
    4, [(.r1, 0xffffffffffffffff)], [], 5, [(.r1, 0x000000007fffffff)], []⟩,
  ⟨[0x5f, 0x21, 0x00, 0x00, 0x00, 0x00, 0x00, 0x00], .and64X .r1 .r2,
    4, [(.r1, 0xff00ff00ff00ff00), (.r2, 0x0ff00ff00ff00ff0)], [], 5, [(.r1, 0x0f000f000f000f00)], []⟩,
  ⟨[0x67, 0x01, 0x00, 0x00, 0x3f, 0x00, 0x00, 0x00], .lsh64K .r1 63,
    4, [(.r1, 0x0000000000000001)], [], 5, [(.r1, 0x8000000000000000)], []⟩,
  ⟨[0x6f, 0x21, 0x00, 0x00, 0x00, 0x00, 0x00, 0x00], .lsh64X .r1 .r2,
    4, [(.r1, 0xffffffffffffffff), (.r2, 0x0000000000000004)], [], 5, [(.r1, 0xfffffffffffffff0)], []⟩,
  ⟨[0x77, 0x01, 0x00, 0x00, 0x3f, 0x00, 0x00, 0x00], .rsh64K .r1 63,
    4, [(.r1, 0x8000000000000000)], [], 5, [(.r1, 0x0000000000000001)], []⟩,
  ⟨[0x7f, 0x21, 0x00, 0x00, 0x00, 0x00, 0x00, 0x00], .rsh64X .r1 .r2,
    4, [(.r1, 0xffffffffffffffff), (.r2, 0x000000000000003c)], [], 5, [(.r1, 0x000000000000000f)], []⟩,
  ⟨[0x87, 0x01, 0x00, 0x00, 0x00, 0x00, 0x00, 0x00], .neg64 .r1,
    4, [(.r1, 0x8000000000000000)], [], 5, [(.r1, 0x8000000000000000)], []⟩,
  ⟨[0x97, 0x01, 0x00, 0x00, 0x0a, 0x00, 0x00, 0x00], .mod64K .r1 10,
    4, [(.r1, 0xffffffffffffffff)], [], 5, [(.r1, 0x0000000000000005)], []⟩,
  ⟨[0x9f, 0x21, 0x00, 0x00, 0x00, 0x00, 0x00, 0x00], .mod64X .r1 .r2,
    4, [(.r1, 0x1234567800000007), (.r2, 0x0000000000000000)], [], 5, [(.r1, 0x1234567800000007)], []⟩,
  ⟨[0xa7, 0x01, 0x00, 0x00, 0xff, 0xff, 0xff, 0xff], .xor64K .r1 (-1),
    4, [(.r1, 0x0000000000000000)], [], 5, [(.r1, 0xffffffffffffffff)], []⟩,
  ⟨[0xaf, 0x21, 0x00, 0x00, 0x00, 0x00, 0x00, 0x00], .xor64X .r1 .r2,
    4, [(.r1, 0x0000000000001234), (.r2, 0x0000000000001234)], [], 5, [(.r1, 0x0000000000000000)], []⟩,
  ⟨[0xb7, 0x01, 0x00, 0x00, 0xff, 0xff, 0xff, 0xff], .mov64K .r1 (-1),
    4, [], [], 5, [(.r1, 0xffffffffffffffff)], []⟩,
  ⟨[0xbf, 0x21, 0x00, 0x00, 0x00, 0x00, 0x00, 0x00], .mov64X .r1 .r2,
    4, [(.r2, 0x1122334455667788)], [], 5, [(.r1, 0x1122334455667788)], []⟩,
  ⟨[0xc7, 0x01, 0x00, 0x00, 0x3f, 0x00, 0x00, 0x00], .arsh64K .r1 63,
    4, [(.r1, 0x8000000000000000)], [], 5, [(.r1, 0xffffffffffffffff)], []⟩,
  ⟨[0xcf, 0x21, 0x00, 0x00, 0x00, 0x00, 0x00, 0x00], .arsh64X .r1 .r2,
    4, [(.r1, 0x4000000000000000), (.r2, 0x000000000000003e)], [], 5, [(.r1, 0x0000000000000001)], []⟩]

theorem test_alu64_little : (alu64_little.all (SpecExample.holds .little)) = true := by decide +kernel

def alu64_big : List SpecExample := [
  ⟨[0x07, 0x10, 0x00, 0x00, 0xff, 0xff, 0xff, 0xff], .add64K .r1 (-1),
    4, [(.r1, 0x0000000000000000)], [], 5, [(.r1, 0xffffffffffffffff)], []⟩,
  ⟨[0x0f, 0x12, 0x00, 0x00, 0x00, 0x00, 0x00, 0x00], .add64X .r1 .r2,
    4, [(.r1, 0xffffffffffffffff), (.r2, 0x0000000000000002)], [], 5, [(.r1, 0x0000000000000001)], []⟩,
  ⟨[0x17, 0x10, 0x00, 0x00, 0x00, 0x00, 0x00, 0x01], .sub64K .r1 1,
    4, [(.r1, 0x0000000000000000)], [], 5, [(.r1, 0xffffffffffffffff)], []⟩,
  ⟨[0x1f, 0x12, 0x00, 0x00, 0x00, 0x00, 0x00, 0x00], .sub64X .r1 .r2,
    4, [(.r1, 0x8000000000000000), (.r2, 0x0000000000000001)], [], 5, [(.r1, 0x7fffffffffffffff)], []⟩,
  ⟨[0x27, 0x10, 0x00, 0x00, 0xff, 0xff, 0xff, 0xfe], .mul64K .r1 (-2),
    4, [(.r1, 0x0000000100000000)], [], 5, [(.r1, 0xfffffffe00000000)], []⟩,
  ⟨[0x2f, 0x12, 0x00, 0x00, 0x00, 0x00, 0x00, 0x00], .mul64X .r1 .r2,
    4, [(.r1, 0xffffffffffffffff), (.r2, 0xffffffffffffffff)], [], 5, [(.r1, 0x0000000000000001)], []⟩,
  ⟨[0x37, 0x10, 0x00, 0x00, 0x00, 0x00, 0x00, 0x02], .div64K .r1 2,
    4, [(.r1, 0xfffffffffffffffe)], [], 5, [(.r1, 0x7fffffffffffffff)], []⟩,
  ⟨[0x3f, 0x12, 0x00, 0x00, 0x00, 0x00, 0x00, 0x00], .div64X .r1 .r2,
    4, [(.r1, 0x0000000000000007), (.r2, 0x0000000000000000)], [], 5, [(.r1, 0x0000000000000000)], []⟩,
  ⟨[0x47, 0x10, 0x00, 0x00, 0x80, 0x00, 0x00, 0x00], .or64K .r1 (-2147483648),
    4, [(.r1, 0x0000000000000000)], [], 5, [(.r1, 0xffffffff80000000)], []⟩,
  ⟨[0x4f, 0x12, 0x00, 0x00, 0x00, 0x00, 0x00, 0x00], .or64X .r1 .r2,
    4, [(.r1, 0x00000000000000ff), (.r2, 0x000000000000ff00)], [], 5, [(.r1, 0x000000000000ffff)], []⟩,
  ⟨[0x57, 0x10, 0x00, 0x00, 0x7f, 0xff, 0xff, 0xff], .and64K .r1 2147483647,
    4, [(.r1, 0xffffffffffffffff)], [], 5, [(.r1, 0x000000007fffffff)], []⟩,
  ⟨[0x5f, 0x12, 0x00, 0x00, 0x00, 0x00, 0x00, 0x00], .and64X .r1 .r2,
    4, [(.r1, 0xff00ff00ff00ff00), (.r2, 0x0ff00ff00ff00ff0)], [], 5, [(.r1, 0x0f000f000f000f00)], []⟩,
  ⟨[0x67, 0x10, 0x00, 0x00, 0x00, 0x00, 0x00, 0x3f], .lsh64K .r1 63,
    4, [(.r1, 0x0000000000000001)], [], 5, [(.r1, 0x8000000000000000)], []⟩,
  ⟨[0x6f, 0x12, 0x00, 0x00, 0x00, 0x00, 0x00, 0x00], .lsh64X .r1 .r2,
    4, [(.r1, 0xffffffffffffffff), (.r2, 0x0000000000000004)], [], 5, [(.r1, 0xfffffffffffffff0)], []⟩,
  ⟨[0x77, 0x10, 0x00, 0x00, 0x00, 0x00, 0x00, 0x3f], .rsh64K .r1 63,
    4, [(.r1, 0x8000000000000000)], [], 5, [(.r1, 0x0000000000000001)], []⟩,
  ⟨[0x7f, 0x12, 0x00, 0x00, 0x00, 0x00, 0x00, 0x00], .rsh64X .r1 .r2,
    4, [(.r1, 0xffffffffffffffff), (.r2, 0x000000000000003c)], [], 5, [(.r1, 0x000000000000000f)], []⟩,
  ⟨[0x87, 0x10, 0x00, 0x00, 0x00, 0x00, 0x00, 0x00], .neg64 .r1,
    4, [(.r1, 0x8000000000000000)], [], 5, [(.r1, 0x8000000000000000)], []⟩,
  ⟨[0x97, 0x10, 0x00, 0x00, 0x00, 0x00, 0x00, 0x0a], .mod64K .r1 10,
    4, [(.r1, 0xffffffffffffffff)], [], 5, [(.r1, 0x0000000000000005)], []⟩,
  ⟨[0x9f, 0x12, 0x00, 0x00, 0x00, 0x00, 0x00, 0x00], .mod64X .r1 .r2,
    4, [(.r1, 0x1234567800000007), (.r2, 0x0000000000000000)], [], 5, [(.r1, 0x1234567800000007)], []⟩,
  ⟨[0xa7, 0x10, 0x00, 0x00, 0xff, 0xff, 0xff, 0xff], .xor64K .r1 (-1),
    4, [(.r1, 0x0000000000000000)], [], 5, [(.r1, 0xffffffffffffffff)], []⟩,
  ⟨[0xaf, 0x12, 0x00, 0x00, 0x00, 0x00, 0x00, 0x00], .xor64X .r1 .r2,
    4, [(.r1, 0x0000000000001234), (.r2, 0x0000000000001234)], [], 5, [(.r1, 0x0000000000000000)], []⟩,
  ⟨[0xb7, 0x10, 0x00, 0x00, 0xff, 0xff, 0xff, 0xff], .mov64K .r1 (-1),
    4, [], [], 5, [(.r1, 0xffffffffffffffff)], []⟩,
  ⟨[0xbf, 0x12, 0x00, 0x00, 0x00, 0x00, 0x00, 0x00], .mov64X .r1 .r2,
    4, [(.r2, 0x1122334455667788)], [], 5, [(.r1, 0x1122334455667788)], []⟩,
  ⟨[0xc7, 0x10, 0x00, 0x00, 0x00, 0x00, 0x00, 0x3f], .arsh64K .r1 63,
    4, [(.r1, 0x8000000000000000)], [], 5, [(.r1, 0xffffffffffffffff)], []⟩,
  ⟨[0xcf, 0x12, 0x00, 0x00, 0x00, 0x00, 0x00, 0x00], .arsh64X .r1 .r2,
    4, [(.r1, 0x4000000000000000), (.r2, 0x000000000000003e)], [], 5, [(.r1, 0x0000000000000001)], []⟩]

theorem test_alu64_big : (alu64_big.all (SpecExample.holds .big)) = true := by decide +kernel

def byteswap_little : List SpecExample := [
  ⟨[0xd4, 0x01, 0x00, 0x00, 0x10, 0x00, 0x00, 0x00], .le16 .r1,
    4, [(.r1, 0x1122334455667788)], [], 5, [(.r1, 0x0000000000007788)], []⟩,
  ⟨[0xd4, 0x01, 0x00, 0x00, 0x20, 0x00, 0x00, 0x00], .le32 .r1,
    4, [(.r1, 0x1122334455667788)], [], 5, [(.r1, 0x0000000055667788)], []⟩,
  ⟨[0xd4, 0x01, 0x00, 0x00, 0x40, 0x00, 0x00, 0x00], .le64 .r1,
    4, [(.r1, 0x1122334455667788)], [], 5, [(.r1, 0x1122334455667788)], []⟩,
  ⟨[0xdc, 0x01, 0x00, 0x00, 0x10, 0x00, 0x00, 0x00], .be16 .r1,
    4, [(.r1, 0x1122334455667788)], [], 5, [(.r1, 0x0000000000008877)], []⟩,
  ⟨[0xdc, 0x01, 0x00, 0x00, 0x20, 0x00, 0x00, 0x00], .be32 .r1,
    4, [(.r1, 0x1122334455667788)], [], 5, [(.r1, 0x0000000088776655)], []⟩,
  ⟨[0xdc, 0x01, 0x00, 0x00, 0x40, 0x00, 0x00, 0x00], .be64 .r1,
    4, [(.r1, 0x1122334455667788)], [], 5, [(.r1, 0x8877665544332211)], []⟩]

theorem test_byteswap_little : (byteswap_little.all (SpecExample.holds .little)) = true := by decide +kernel

def byteswap_big : List SpecExample := [
  ⟨[0xd4, 0x10, 0x00, 0x00, 0x00, 0x00, 0x00, 0x10], .le16 .r1,
    4, [(.r1, 0x1122334455667788)], [], 5, [(.r1, 0x0000000000008877)], []⟩,
  ⟨[0xd4, 0x10, 0x00, 0x00, 0x00, 0x00, 0x00, 0x20], .le32 .r1,
    4, [(.r1, 0x1122334455667788)], [], 5, [(.r1, 0x0000000088776655)], []⟩,
  ⟨[0xd4, 0x10, 0x00, 0x00, 0x00, 0x00, 0x00, 0x40], .le64 .r1,
    4, [(.r1, 0x1122334455667788)], [], 5, [(.r1, 0x8877665544332211)], []⟩,
  ⟨[0xdc, 0x10, 0x00, 0x00, 0x00, 0x00, 0x00, 0x10], .be16 .r1,
    4, [(.r1, 0x1122334455667788)], [], 5, [(.r1, 0x0000000000007788)], []⟩,
  ⟨[0xdc, 0x10, 0x00, 0x00, 0x00, 0x00, 0x00, 0x20], .be32 .r1,
    4, [(.r1, 0x1122334455667788)], [], 5, [(.r1, 0x0000000055667788)], []⟩,
  ⟨[0xdc, 0x10, 0x00, 0x00, 0x00, 0x00, 0x00, 0x40], .be64 .r1,
    4, [(.r1, 0x1122334455667788)], [], 5, [(.r1, 0x1122334455667788)], []⟩]

theorem test_byteswap_big : (byteswap_big.all (SpecExample.holds .big)) = true := by decide +kernel

def jump64_little : List SpecExample := [
  ⟨[0x05, 0x00, 0x02, 0x00, 0x00, 0x00, 0x00, 0x00], .ja 2,
    4, [], [], 7, [], []⟩,
  ⟨[0x15, 0x01, 0x03, 0x00, 0xff, 0xff, 0xff, 0xff], .jeqK .r1 3 (-1),
    2, [(.r1, 0xffffffffffffffff)], [], 6, [], []⟩,
  ⟨[0x1d, 0x21, 0x03, 0x00, 0x00, 0x00, 0x00, 0x00], .jeqX .r1 .r2 3,
    2, [(.r1, 0x0000000000000005), (.r2, 0x0000000000000005)], [], 6, [], []⟩,
  ⟨[0x25, 0x01, 0x03, 0x00, 0xff, 0xff, 0xff, 0xff], .jgtK .r1 3 (-1),
    2, [(.r1, 0x0000000000000001)], [], 3, [], []⟩,
  ⟨[0x2d, 0x21, 0x03, 0x00, 0x00, 0x00, 0x00, 0x00], .jgtX .r1 .r2 3,
    2, [(.r1, 0xffffffffffffffff), (.r2, 0x0000000000000001)], [], 6, [], []⟩,
  ⟨[0x35, 0x01, 0x03, 0x00, 0x00, 0x00, 0x00, 0x00], .jgeK .r1 3 0,
    2, [(.r1, 0x0000000000000000)], [], 6, [], []⟩,
  ⟨[0x3d, 0x21, 0x03, 0x00, 0x00, 0x00, 0x00, 0x00], .jgeX .r1 .r2 3,
    2, [(.r1, 0x7fffffffffffffff), (.r2, 0x8000000000000000)], [], 3, [], []⟩,
  ⟨[0x45, 0x01, 0x03, 0x00, 0x0f, 0x00, 0x00, 0x00], .jsetK .r1 3 15,
    2, [(.r1, 0x00000000000000f0)], [], 3, [], []⟩,
  ⟨[0x4d, 0x21, 0x03, 0x00, 0x00, 0x00, 0x00, 0x00], .jsetX .r1 .r2 3,
    2, [(.r1, 0x8000000000000000), (.r2, 0xffffffffffffffff)], [], 6, [], []⟩,
  ⟨[0x55, 0x01, 0x03, 0x00, 0x00, 0x00, 0x00, 0x00], .jneK .r1 3 0,
    2, [(.r1, 0x0000000100000000)], [], 6, [], []⟩,
  ⟨[0x5d, 0x21, 0x03, 0x00, 0x00, 0x00, 0x00, 0x00], .jneX .r1 .r2 3,
    2, [(.r1, 0x0000000000000007), (.r2, 0x0000000000000007)], [], 3, [], []⟩,
  ⟨[0x65, 0x01, 0x03, 0x00, 0xff, 0xff, 0xff, 0xff], .jsgtK .r1 3 (-1),
    2, [(.r1, 0x0000000000000001)], [], 6, [], []⟩,
  ⟨[0x6d, 0x21, 0x03, 0x00, 0x00, 0x00, 0x00, 0x00], .jsgtX .r1 .r2 3,
    2, [(.r1, 0x8000000000000000), (.r2, 0x0000000000000000)], [], 3, [], []⟩,
  ⟨[0x75, 0x01, 0x03, 0x00, 0xff, 0xff, 0xff, 0xff], .jsgeK .r1 3 (-1),
    2, [(.r1, 0xffffffffffffffff)], [], 6, [], []⟩,
  ⟨[0x7d, 0x21, 0x03, 0x00, 0x00, 0x00, 0x00, 0x00], .jsgeX .r1 .r2 3,
    2, [(.r1, 0x0000000000000000), (.r2, 0x0000000000000001)], [], 3, [], []⟩,
  ⟨[0xa5, 0x01, 0x03, 0x00, 0xff, 0xff, 0xff, 0xff], .jltK .r1 3 (-1),
    2, [(.r1, 0x0000000000000001)], [], 6, [], []⟩,
  ⟨[0xad, 0x21, 0x03, 0x00, 0x00, 0x00, 0x00, 0x00], .jltX .r1 .r2 3,
    2, [(.r1, 0xffffffffffffffff), (.r2, 0x0000000000000000)], [], 3, [], []⟩,
  ⟨[0xb5, 0x01, 0x03, 0x00, 0x05, 0x00, 0x00, 0x00], .jleK .r1 3 5,
    2, [(.r1, 0x0000000000000005)], [], 6, [], []⟩,
  ⟨[0xbd, 0x21, 0x03, 0x00, 0x00, 0x00, 0x00, 0x00], .jleX .r1 .r2 3,
    2, [(.r1, 0x0000000000000006), (.r2, 0x0000000000000005)], [], 3, [], []⟩,
  ⟨[0xc5, 0x01, 0x03, 0x00, 0x00, 0x00, 0x00, 0x00], .jsltK .r1 3 0,
    2, [(.r1, 0xffffffffffffffff)], [], 6, [], []⟩,
  ⟨[0xcd, 0x21, 0x03, 0x00, 0x00, 0x00, 0x00, 0x00], .jsltX .r1 .r2 3,
    2, [(.r1, 0x0000000000000000), (.r2, 0x8000000000000000)], [], 3, [], []⟩,
  ⟨[0xd5, 0x01, 0x03, 0x00, 0x00, 0x00, 0x00, 0x80], .jsleK .r1 3 (-2147483648),
    2, [(.r1, 0x8000000000000000)], [], 6, [], []⟩,
  ⟨[0xdd, 0x21, 0x03, 0x00, 0x00, 0x00, 0x00, 0x00], .jsleX .r1 .r2 3,
    2, [(.r1, 0x0000000000000001), (.r2, 0x0000000000000000)], [], 3, [], []⟩]

theorem test_jump64_little : (jump64_little.all (SpecExample.holds .little)) = true := by decide +kernel

def jump64_big : List SpecExample := [
  ⟨[0x05, 0x00, 0x00, 0x02, 0x00, 0x00, 0x00, 0x00], .ja 2,
    4, [], [], 7, [], []⟩,
  ⟨[0x15, 0x10, 0x00, 0x03, 0xff, 0xff, 0xff, 0xff], .jeqK .r1 3 (-1),
    2, [(.r1, 0xffffffffffffffff)], [], 6, [], []⟩,
  ⟨[0x1d, 0x12, 0x00, 0x03, 0x00, 0x00, 0x00, 0x00], .jeqX .r1 .r2 3,
    2, [(.r1, 0x0000000000000005), (.r2, 0x0000000000000005)], [], 6, [], []⟩,
  ⟨[0x25, 0x10, 0x00, 0x03, 0xff, 0xff, 0xff, 0xff], .jgtK .r1 3 (-1),
    2, [(.r1, 0x0000000000000001)], [], 3, [], []⟩,
  ⟨[0x2d, 0x12, 0x00, 0x03, 0x00, 0x00, 0x00, 0x00], .jgtX .r1 .r2 3,
    2, [(.r1, 0xffffffffffffffff), (.r2, 0x0000000000000001)], [], 6, [], []⟩,
  ⟨[0x35, 0x10, 0x00, 0x03, 0x00, 0x00, 0x00, 0x00], .jgeK .r1 3 0,
    2, [(.r1, 0x0000000000000000)], [], 6, [], []⟩,
  ⟨[0x3d, 0x12, 0x00, 0x03, 0x00, 0x00, 0x00, 0x00], .jgeX .r1 .r2 3,
    2, [(.r1, 0x7fffffffffffffff), (.r2, 0x8000000000000000)], [], 3, [], []⟩,
  ⟨[0x45, 0x10, 0x00, 0x03, 0x00, 0x00, 0x00, 0x0f], .jsetK .r1 3 15,
    2, [(.r1, 0x00000000000000f0)], [], 3, [], []⟩,
  ⟨[0x4d, 0x12, 0x00, 0x03, 0x00, 0x00, 0x00, 0x00], .jsetX .r1 .r2 3,
    2, [(.r1, 0x8000000000000000), (.r2, 0xffffffffffffffff)], [], 6, [], []⟩,
  ⟨[0x55, 0x10, 0x00, 0x03, 0x00, 0x00, 0x00, 0x00], .jneK .r1 3 0,
    2, [(.r1, 0x0000000100000000)], [], 6, [], []⟩,
  ⟨[0x5d, 0x12, 0x00, 0x03, 0x00, 0x00, 0x00, 0x00], .jneX .r1 .r2 3,
    2, [(.r1, 0x0000000000000007), (.r2, 0x0000000000000007)], [], 3, [], []⟩,
  ⟨[0x65, 0x10, 0x00, 0x03, 0xff, 0xff, 0xff, 0xff], .jsgtK .r1 3 (-1),
    2, [(.r1, 0x0000000000000001)], [], 6, [], []⟩,
  ⟨[0x6d, 0x12, 0x00, 0x03, 0x00, 0x00, 0x00, 0x00], .jsgtX .r1 .r2 3,
    2, [(.r1, 0x8000000000000000), (.r2, 0x0000000000000000)], [], 3, [], []⟩,
  ⟨[0x75, 0x10, 0x00, 0x03, 0xff, 0xff, 0xff, 0xff], .jsgeK .r1 3 (-1),
    2, [(.r1, 0xffffffffffffffff)], [], 6, [], []⟩,
  ⟨[0x7d, 0x12, 0x00, 0x03, 0x00, 0x00, 0x00, 0x00], .jsgeX .r1 .r2 3,
    2, [(.r1, 0x0000000000000000), (.r2, 0x0000000000000001)], [], 3, [], []⟩,
  ⟨[0xa5, 0x10, 0x00, 0x03, 0xff, 0xff, 0xff, 0xff], .jltK .r1 3 (-1),
    2, [(.r1, 0x0000000000000001)], [], 6, [], []⟩,
  ⟨[0xad, 0x12, 0x00, 0x03, 0x00, 0x00, 0x00, 0x00], .jltX .r1 .r2 3,
    2, [(.r1, 0xffffffffffffffff), (.r2, 0x0000000000000000)], [], 3, [], []⟩,
  ⟨[0xb5, 0x10, 0x00, 0x03, 0x00, 0x00, 0x00, 0x05], .jleK .r1 3 5,
    2, [(.r1, 0x0000000000000005)], [], 6, [], []⟩,
  ⟨[0xbd, 0x12, 0x00, 0x03, 0x00, 0x00, 0x00, 0x00], .jleX .r1 .r2 3,
    2, [(.r1, 0x0000000000000006), (.r2, 0x0000000000000005)], [], 3, [], []⟩,
  ⟨[0xc5, 0x10, 0x00, 0x03, 0x00, 0x00, 0x00, 0x00], .jsltK .r1 3 0,
    2, [(.r1, 0xffffffffffffffff)], [], 6, [], []⟩,
  ⟨[0xcd, 0x12, 0x00, 0x03, 0x00, 0x00, 0x00, 0x00], .jsltX .r1 .r2 3,
    2, [(.r1, 0x0000000000000000), (.r2, 0x8000000000000000)], [], 3, [], []⟩,
  ⟨[0xd5, 0x10, 0x00, 0x03, 0x80, 0x00, 0x00, 0x00], .jsleK .r1 3 (-2147483648),
    2, [(.r1, 0x8000000000000000)], [], 6, [], []⟩,
  ⟨[0xdd, 0x12, 0x00, 0x03, 0x00, 0x00, 0x00, 0x00], .jsleX .r1 .r2 3,
    2, [(.r1, 0x0000000000000001), (.r2, 0x0000000000000000)], [], 3, [], []⟩]

theorem test_jump64_big : (jump64_big.all (SpecExample.holds .big)) = true := by decide +kernel

def jump32_little : List SpecExample := [
  ⟨[0x16, 0x01, 0x03, 0x00, 0x05, 0x00, 0x00, 0x00], .jeq32K .r1 3 5,
    2, [(.r1, 0x1234567800000005)], [], 6, [], []⟩,
  ⟨[0x1e, 0x21, 0x03, 0x00, 0x00, 0x00, 0x00, 0x00], .jeq32X .r1 .r2 3,
    2, [(.r1, 0xaaaaaaaa00000001), (.r2, 0xbbbbbbbb00000001)], [], 6, [], []⟩,
  ⟨[0x26, 0x01, 0x03, 0x00, 0xff, 0xff, 0xff, 0xff], .jgt32K .r1 3 (-1),
    2, [(.r1, 0xffffffff00000001)], [], 3, [], []⟩,
  ⟨[0x2e, 0x21, 0x03, 0x00, 0x00, 0x00, 0x00, 0x00], .jgt32X .r1 .r2 3,
    2, [(.r1, 0x00000000ffffffff), (.r2, 0xffffffff00000001)], [], 6, [], []⟩,
  ⟨[0x36, 0x01, 0x03, 0x00, 0x00, 0x00, 0x00, 0x00], .jge32K .r1 3 0,
    2, [(.r1, 0xffffffff00000000)], [], 6, [], []⟩,
  ⟨[0x3e, 0x21, 0x03, 0x00, 0x00, 0x00, 0x00, 0x00], .jge32X .r1 .r2 3,
    2, [(.r1, 0x000000007fffffff), (.r2, 0x0000000080000000)], [], 3, [], []⟩,
  ⟨[0x46, 0x01, 0x03, 0x00, 0xff, 0xff, 0xff, 0xff], .jset32K .r1 3 (-1),
    2, [(.r1, 0xffffffff00000000)], [], 3, [], []⟩,
  ⟨[0x4e, 0x21, 0x03, 0x00, 0x00, 0x00, 0x00, 0x00], .jset32X .r1 .r2 3,
    2, [(.r1, 0x0000000080000000), (.r2, 0xffffffff80000000)], [], 6, [], []⟩,
  ⟨[0x56, 0x01, 0x03, 0x00, 0x00, 0x00, 0x00, 0x00], .jne32K .r1 3 0,
    2, [(.r1, 0x0000000100000000)], [], 3, [], []⟩,
  ⟨[0x5e, 0x21, 0x03, 0x00, 0x00, 0x00, 0x00, 0x00], .jne32X .r1 .r2 3,
    2, [(.r1, 0x0000000100000007), (.r2, 0x0000000200000007)], [], 3, [], []⟩,
  ⟨[0x66, 0x01, 0x03, 0x00, 0xff, 0xff, 0xff, 0xff], .jsgt32K .r1 3 (-1),
    2, [(.r1, 0x0000000000000001)], [], 6, [], []⟩,
  ⟨[0x6e, 0x21, 0x03, 0x00, 0x00, 0x00, 0x00, 0x00], .jsgt32X .r1 .r2 3,
    2, [(.r1, 0x0000000080000000), (.r2, 0x0000000000000000)], [], 3, [], []⟩,
  ⟨[0x76, 0x01, 0x03, 0x00, 0xff, 0xff, 0xff, 0xff], .jsge32K .r1 3 (-1),
    2, [(.r1, 0x00000000ffffffff)], [], 6, [], []⟩,
  ⟨[0x7e, 0x21, 0x03, 0x00, 0x00, 0x00, 0x00, 0x00], .jsge32X .r1 .r2 3,
    2, [(.r1, 0xffffffff00000000), (.r2, 0x0000000000000001)], [], 3, [], []⟩,
  ⟨[0xa6, 0x01, 0x03, 0x00, 0xff, 0xff, 0xff, 0xff], .jlt32K .r1 3 (-1),
    2, [(.r1, 0x0000000000000001)], [], 6, [], []⟩,
  ⟨[0xae, 0x21, 0x03, 0x00, 0x00, 0x00, 0x00, 0x00], .jlt32X .r1 .r2 3,
    2, [(.r1, 0x00000000ffffffff), (.r2, 0x0000000000000000)], [], 3, [], []⟩,
  ⟨[0xb6, 0x01, 0x03, 0x00, 0x05, 0x00, 0x00, 0x00], .jle32K .r1 3 5,
    2, [(.r1, 0xffffffff00000005)], [], 6, [], []⟩,
  ⟨[0xbe, 0x21, 0x03, 0x00, 0x00, 0x00, 0x00, 0x00], .jle32X .r1 .r2 3,
    2, [(.r1, 0x0000000000000006), (.r2, 0x0000000000000005)], [], 3, [], []⟩,
  ⟨[0xc6, 0x01, 0x03, 0x00, 0x00, 0x00, 0x00, 0x00], .jslt32K .r1 3 0,
    2, [(.r1, 0x00000000ffffffff)], [], 6, [], []⟩,
  ⟨[0xce, 0x21, 0x03, 0x00, 0x00, 0x00, 0x00, 0x00], .jslt32X .r1 .r2 3,
    2, [(.r1, 0x0000000000000000), (.r2, 0x0000000080000000)], [], 3, [], []⟩,
  ⟨[0xd6, 0x01, 0x03, 0x00, 0x00, 0x00, 0x00, 0x80], .jsle32K .r1 3 (-2147483648),
    2, [(.r1, 0x0000000080000000)], [], 6, [], []⟩,
  ⟨[0xde, 0x21, 0x03, 0x00, 0x00, 0x00, 0x00, 0x00], .jsle32X .r1 .r2 3,
    2, [(.r1, 0x0000000000000001), (.r2, 0x0000000000000000)], [], 3, [], []⟩]

theorem test_jump32_little : (jump32_little.all (SpecExample.holds .little)) = true := by decide +kernel

def jump32_big : List SpecExample := [
  ⟨[0x16, 0x10, 0x00, 0x03, 0x00, 0x00, 0x00, 0x05], .jeq32K .r1 3 5,
    2, [(.r1, 0x1234567800000005)], [], 6, [], []⟩,
  ⟨[0x1e, 0x12, 0x00, 0x03, 0x00, 0x00, 0x00, 0x00], .jeq32X .r1 .r2 3,
    2, [(.r1, 0xaaaaaaaa00000001), (.r2, 0xbbbbbbbb00000001)], [], 6, [], []⟩,
  ⟨[0x26, 0x10, 0x00, 0x03, 0xff, 0xff, 0xff, 0xff], .jgt32K .r1 3 (-1),
    2, [(.r1, 0xffffffff00000001)], [], 3, [], []⟩,
  ⟨[0x2e, 0x12, 0x00, 0x03, 0x00, 0x00, 0x00, 0x00], .jgt32X .r1 .r2 3,
    2, [(.r1, 0x00000000ffffffff), (.r2, 0xffffffff00000001)], [], 6, [], []⟩,
  ⟨[0x36, 0x10, 0x00, 0x03, 0x00, 0x00, 0x00, 0x00], .jge32K .r1 3 0,
    2, [(.r1, 0xffffffff00000000)], [], 6, [], []⟩,
  ⟨[0x3e, 0x12, 0x00, 0x03, 0x00, 0x00, 0x00, 0x00], .jge32X .r1 .r2 3,
    2, [(.r1, 0x000000007fffffff), (.r2, 0x0000000080000000)], [], 3, [], []⟩,
  ⟨[0x46, 0x10, 0x00, 0x03, 0xff, 0xff, 0xff, 0xff], .jset32K .r1 3 (-1),
    2, [(.r1, 0xffffffff00000000)], [], 3, [], []⟩,
  ⟨[0x4e, 0x12, 0x00, 0x03, 0x00, 0x00, 0x00, 0x00], .jset32X .r1 .r2 3,
    2, [(.r1, 0x0000000080000000), (.r2, 0xffffffff80000000)], [], 6, [], []⟩,
  ⟨[0x56, 0x10, 0x00, 0x03, 0x00, 0x00, 0x00, 0x00], .jne32K .r1 3 0,
    2, [(.r1, 0x0000000100000000)], [], 3, [], []⟩,
  ⟨[0x5e, 0x12, 0x00, 0x03, 0x00, 0x00, 0x00, 0x00], .jne32X .r1 .r2 3,
    2, [(.r1, 0x0000000100000007), (.r2, 0x0000000200000007)], [], 3, [], []⟩,
  ⟨[0x66, 0x10, 0x00, 0x03, 0xff, 0xff, 0xff, 0xff], .jsgt32K .r1 3 (-1),
    2, [(.r1, 0x0000000000000001)], [], 6, [], []⟩,
  ⟨[0x6e, 0x12, 0x00, 0x03, 0x00, 0x00, 0x00, 0x00], .jsgt32X .r1 .r2 3,
    2, [(.r1, 0x0000000080000000), (.r2, 0x0000000000000000)], [], 3, [], []⟩,
  ⟨[0x76, 0x10, 0x00, 0x03, 0xff, 0xff, 0xff, 0xff], .jsge32K .r1 3 (-1),
    2, [(.r1, 0x00000000ffffffff)], [], 6, [], []⟩,
  ⟨[0x7e, 0x12, 0x00, 0x03, 0x00, 0x00, 0x00, 0x00], .jsge32X .r1 .r2 3,
    2, [(.r1, 0xffffffff00000000), (.r2, 0x0000000000000001)], [], 3, [], []⟩,
  ⟨[0xa6, 0x10, 0x00, 0x03, 0xff, 0xff, 0xff, 0xff], .jlt32K .r1 3 (-1),
    2, [(.r1, 0x0000000000000001)], [], 6, [], []⟩,
  ⟨[0xae, 0x12, 0x00, 0x03, 0x00, 0x00, 0x00, 0x00], .jlt32X .r1 .r2 3,
    2, [(.r1, 0x00000000ffffffff), (.r2, 0x0000000000000000)], [], 3, [], []⟩,
  ⟨[0xb6, 0x10, 0x00, 0x03, 0x00, 0x00, 0x00, 0x05], .jle32K .r1 3 5,
    2, [(.r1, 0xffffffff00000005)], [], 6, [], []⟩,
  ⟨[0xbe, 0x12, 0x00, 0x03, 0x00, 0x00, 0x00, 0x00], .jle32X .r1 .r2 3,
    2, [(.r1, 0x0000000000000006), (.r2, 0x0000000000000005)], [], 3, [], []⟩,
  ⟨[0xc6, 0x10, 0x00, 0x03, 0x00, 0x00, 0x00, 0x00], .jslt32K .r1 3 0,
    2, [(.r1, 0x00000000ffffffff)], [], 6, [], []⟩,
  ⟨[0xce, 0x12, 0x00, 0x03, 0x00, 0x00, 0x00, 0x00], .jslt32X .r1 .r2 3,
    2, [(.r1, 0x0000000000000000), (.r2, 0x0000000080000000)], [], 3, [], []⟩,
  ⟨[0xd6, 0x10, 0x00, 0x03, 0x80, 0x00, 0x00, 0x00], .jsle32K .r1 3 (-2147483648),
    2, [(.r1, 0x0000000080000000)], [], 6, [], []⟩,
  ⟨[0xde, 0x12, 0x00, 0x03, 0x00, 0x00, 0x00, 0x00], .jsle32X .r1 .r2 3,
    2, [(.r1, 0x0000000000000001), (.r2, 0x0000000000000000)], [], 3, [], []⟩]

theorem test_jump32_big : (jump32_big.all (SpecExample.holds .big)) = true := by decide +kernel

def load_store_little : List SpecExample := [
  ⟨[0x61, 0xa1, 0xf8, 0xff, 0x00, 0x00, 0x00, 0x00], .ldxw .r1 .r10 (-8),
    4, [], [(0xfff8, [0x88, 0x77, 0x66, 0x55, 0x44, 0x33, 0x22, 0x11])], 5, [(.r1, 0x0000000055667788)], []⟩,
  ⟨[0x69, 0xa1, 0xf8, 0xff, 0x00, 0x00, 0x00, 0x00], .ldxh .r1 .r10 (-8),
    4, [], [(0xfff8, [0x88, 0x77, 0x66, 0x55, 0x44, 0x33, 0x22, 0x11])], 5, [(.r1, 0x0000000000007788)], []⟩,
  ⟨[0x71, 0xa1, 0xf8, 0xff, 0x00, 0x00, 0x00, 0x00], .ldxb .r1 .r10 (-8),
    4, [], [(0xfff8, [0x88, 0x77, 0x66, 0x55, 0x44, 0x33, 0x22, 0x11])], 5, [(.r1, 0x0000000000000088)], []⟩,
  ⟨[0x79, 0xa1, 0xf8, 0xff, 0x00, 0x00, 0x00, 0x00], .ldxdw .r1 .r10 (-8),
    4, [], [(0xfff8, [0x88, 0x77, 0x66, 0x55, 0x44, 0x33, 0x22, 0x11])], 5, [(.r1, 0x1122334455667788)], []⟩,
  ⟨[0x62, 0x0a, 0xf8, 0xff, 0x44, 0x33, 0x22, 0x11], .stw .r10 (-8) 287454020,
    4, [], [], 5, [], [(0xfff8, [0x44, 0x33, 0x22, 0x11])]⟩,
  ⟨[0x6a, 0x0a, 0xf8, 0xff, 0x44, 0x33, 0x22, 0x11], .sth .r10 (-8) 287454020,
    4, [], [], 5, [], [(0xfff8, [0x44, 0x33])]⟩,
  ⟨[0x72, 0x0a, 0xf8, 0xff, 0x44, 0x33, 0x22, 0x11], .stb .r10 (-8) 287454020,
    4, [], [], 5, [], [(0xfff8, [0x44])]⟩,
  ⟨[0x7a, 0x0a, 0xf8, 0xff, 0xfe, 0xff, 0xff, 0xff], .stdw .r10 (-8) (-2),
    4, [], [], 5, [], [(0xfff8, [0xfe, 0xff, 0xff, 0xff, 0xff, 0xff, 0xff, 0xff])]⟩,
  ⟨[0x63, 0x2a, 0xf8, 0xff, 0x00, 0x00, 0x00, 0x00], .stxw .r10 .r2 (-8),
    4, [(.r2, 0x1122334455667788)], [], 5, [], [(0xfff8, [0x88, 0x77, 0x66, 0x55])]⟩,
  ⟨[0x6b, 0x2a, 0xf8, 0xff, 0x00, 0x00, 0x00, 0x00], .stxh .r10 .r2 (-8),
    4, [(.r2, 0x1122334455667788)], [], 5, [], [(0xfff8, [0x88, 0x77])]⟩,
  ⟨[0x73, 0x2a, 0xf8, 0xff, 0x00, 0x00, 0x00, 0x00], .stxb .r10 .r2 (-8),
    4, [(.r2, 0x1122334455667788)], [], 5, [], [(0xfff8, [0x88])]⟩,
  ⟨[0x7b, 0x2a, 0xf8, 0xff, 0x00, 0x00, 0x00, 0x00], .stxdw .r10 .r2 (-8),
    4, [(.r2, 0x1122334455667788)], [], 5, [], [(0xfff8, [0x88, 0x77, 0x66, 0x55, 0x44, 0x33, 0x22, 0x11])]⟩]

theorem test_load_store_little : (load_store_little.all (SpecExample.holds .little)) = true := by decide +kernel

def load_store_big : List SpecExample := [
  ⟨[0x61, 0x1a, 0xff, 0xf8, 0x00, 0x00, 0x00, 0x00], .ldxw .r1 .r10 (-8),
    4, [], [(0xfff8, [0x88, 0x77, 0x66, 0x55, 0x44, 0x33, 0x22, 0x11])], 5, [(.r1, 0x0000000088776655)], []⟩,
  ⟨[0x69, 0x1a, 0xff, 0xf8, 0x00, 0x00, 0x00, 0x00], .ldxh .r1 .r10 (-8),
    4, [], [(0xfff8, [0x88, 0x77, 0x66, 0x55, 0x44, 0x33, 0x22, 0x11])], 5, [(.r1, 0x0000000000008877)], []⟩,
  ⟨[0x71, 0x1a, 0xff, 0xf8, 0x00, 0x00, 0x00, 0x00], .ldxb .r1 .r10 (-8),
    4, [], [(0xfff8, [0x88, 0x77, 0x66, 0x55, 0x44, 0x33, 0x22, 0x11])], 5, [(.r1, 0x0000000000000088)], []⟩,
  ⟨[0x79, 0x1a, 0xff, 0xf8, 0x00, 0x00, 0x00, 0x00], .ldxdw .r1 .r10 (-8),
    4, [], [(0xfff8, [0x88, 0x77, 0x66, 0x55, 0x44, 0x33, 0x22, 0x11])], 5, [(.r1, 0x8877665544332211)], []⟩,
  ⟨[0x62, 0xa0, 0xff, 0xf8, 0x11, 0x22, 0x33, 0x44], .stw .r10 (-8) 287454020,
    4, [], [], 5, [], [(0xfff8, [0x11, 0x22, 0x33, 0x44])]⟩,
  ⟨[0x6a, 0xa0, 0xff, 0xf8, 0x11, 0x22, 0x33, 0x44], .sth .r10 (-8) 287454020,
    4, [], [], 5, [], [(0xfff8, [0x33, 0x44])]⟩,
  ⟨[0x72, 0xa0, 0xff, 0xf8, 0x11, 0x22, 0x33, 0x44], .stb .r10 (-8) 287454020,
    4, [], [], 5, [], [(0xfff8, [0x44])]⟩,
  ⟨[0x7a, 0xa0, 0xff, 0xf8, 0xff, 0xff, 0xff, 0xfe], .stdw .r10 (-8) (-2),
    4, [], [], 5, [], [(0xfff8, [0xff, 0xff, 0xff, 0xff, 0xff, 0xff, 0xff, 0xfe])]⟩,
  ⟨[0x63, 0xa2, 0xff, 0xf8, 0x00, 0x00, 0x00, 0x00], .stxw .r10 .r2 (-8),
    4, [(.r2, 0x1122334455667788)], [], 5, [], [(0xfff8, [0x55, 0x66, 0x77, 0x88])]⟩,
  ⟨[0x6b, 0xa2, 0xff, 0xf8, 0x00, 0x00, 0x00, 0x00], .stxh .r10 .r2 (-8),
    4, [(.r2, 0x1122334455667788)], [], 5, [], [(0xfff8, [0x77, 0x88])]⟩,
  ⟨[0x73, 0xa2, 0xff, 0xf8, 0x00, 0x00, 0x00, 0x00], .stxb .r10 .r2 (-8),
    4, [(.r2, 0x1122334455667788)], [], 5, [], [(0xfff8, [0x88])]⟩,
  ⟨[0x7b, 0xa2, 0xff, 0xf8, 0x00, 0x00, 0x00, 0x00], .stxdw .r10 .r2 (-8),
    4, [(.r2, 0x1122334455667788)], [], 5, [], [(0xfff8, [0x11, 0x22, 0x33, 0x44, 0x55, 0x66, 0x77, 0x88])]⟩]

theorem test_load_store_big : (load_store_big.all (SpecExample.holds .big)) = true := by decide +kernel

def atomic_little : List SpecExample := [
  ⟨[0xc3, 0x2a, 0xf8, 0xff, 0x00, 0x00, 0x00, 0x00], .atomicAdd32 .r10 .r2 (-8),
    4, [(.r2, 0x00000001ffffffff)], [(0xfff8, [0x88, 0x77, 0x66, 0x55])], 5, [(.r2, 0x00000001ffffffff)], [(0xfff8, [0x87, 0x77, 0x66, 0x55])]⟩,
  ⟨[0xc3, 0x2a, 0xf8, 0xff, 0x01, 0x00, 0x00, 0x00], .atomicFetchAdd32 .r10 .r2 (-8),
    4, [(.r2, 0x00000001ffffffff)], [(0xfff8, [0x88, 0x77, 0x66, 0x55])], 5, [(.r2, 0x0000000055667788)], [(0xfff8, [0x87, 0x77, 0x66, 0x55])]⟩,
  ⟨[0xc3, 0x2a, 0xf8, 0xff, 0x40, 0x00, 0x00, 0x00], .atomicOr32 .r10 .r2 (-8),
    4, [(.r2, 0xffffffff000000ff)], [(0xfff8, [0x88, 0x77, 0x66, 0x55])], 5, [(.r2, 0xffffffff000000ff)], [(0xfff8, [0xff, 0x77, 0x66, 0x55])]⟩,
  ⟨[0xc3, 0x2a, 0xf8, 0xff, 0x41, 0x00, 0x00, 0x00], .atomicFetchOr32 .r10 .r2 (-8),
    4, [(.r2, 0xffffffff000000ff)], [(0xfff8, [0x88, 0x77, 0x66, 0x55])], 5, [(.r2, 0x0000000055667788)], [(0xfff8, [0xff, 0x77, 0x66, 0x55])]⟩,
  ⟨[0xc3, 0x2a, 0xf8, 0xff, 0x50, 0x00, 0x00, 0x00], .atomicAnd32 .r10 .r2 (-8),
    4, [(.r2, 0xffffffff000000ff)], [(0xfff8, [0x88, 0x77, 0x66, 0x55])], 5, [(.r2, 0xffffffff000000ff)], [(0xfff8, [0x88, 0x00, 0x00, 0x00])]⟩,
  ⟨[0xc3, 0x2a, 0xf8, 0xff, 0x51, 0x00, 0x00, 0x00], .atomicFetchAnd32 .r10 .r2 (-8),
    4, [(.r2, 0xffffffff000000ff)], [(0xfff8, [0x88, 0x77, 0x66, 0x55])], 5, [(.r2, 0x0000000055667788)], [(0xfff8, [0x88, 0x00, 0x00, 0x00])]⟩,
  ⟨[0xc3, 0x2a, 0xf8, 0xff, 0xa0, 0x00, 0x00, 0x00], .atomicXor32 .r10 .r2 (-8),
    4, [(.r2, 0xffffffff000000ff)], [(0xfff8, [0x88, 0x77, 0x66, 0x55])], 5, [(.r2, 0xffffffff000000ff)], [(0xfff8, [0x77, 0x77, 0x66, 0x55])]⟩,
  ⟨[0xc3, 0x2a, 0xf8, 0xff, 0xa1, 0x00, 0x00, 0x00], .atomicFetchXor32 .r10 .r2 (-8),
    4, [(.r2, 0xffffffff000000ff)], [(0xfff8, [0x88, 0x77, 0x66, 0x55])], 5, [(.r2, 0x0000000055667788)], [(0xfff8, [0x77, 0x77, 0x66, 0x55])]⟩,
  ⟨[0xc3, 0x2a, 0xf8, 0xff, 0xe1, 0x00, 0x00, 0x00], .atomicXchg32 .r10 .r2 (-8),
    4, [(.r2, 0xaaaaaaaabbbbbbbb)], [(0xfff8, [0x88, 0x77, 0x66, 0x55])], 5, [(.r2, 0x0000000055667788)], [(0xfff8, [0xbb, 0xbb, 0xbb, 0xbb])]⟩,
  ⟨[0xc3, 0x2a, 0xf8, 0xff, 0xf1, 0x00, 0x00, 0x00], .atomicCmpxchg32 .r10 .r2 (-8),
    4, [(.r2, 0xffffffff000000ff), (.r0, 0xdeadbeef55667788)], [(0xfff8, [0x88, 0x77, 0x66, 0x55])], 5, [(.r2, 0xffffffff000000ff), (.r0, 0x0000000055667788)], [(0xfff8, [0xff, 0x00, 0x00, 0x00])]⟩,
  ⟨[0xdb, 0x2a, 0xf8, 0xff, 0x00, 0x00, 0x00, 0x00], .atomicAdd64 .r10 .r2 (-8),
    4, [(.r2, 0xffffffffffffffff)], [(0xfff8, [0x88, 0x77, 0x66, 0x55, 0x44, 0x33, 0x22, 0x11])], 5, [(.r2, 0xffffffffffffffff)], [(0xfff8, [0x87, 0x77, 0x66, 0x55, 0x44, 0x33, 0x22, 0x11])]⟩,
  ⟨[0xdb, 0x2a, 0xf8, 0xff, 0x01, 0x00, 0x00, 0x00], .atomicFetchAdd64 .r10 .r2 (-8),
    4, [(.r2, 0xffffffffffffffff)], [(0xfff8, [0x88, 0x77, 0x66, 0x55, 0x44, 0x33, 0x22, 0x11])], 5, [(.r2, 0x1122334455667788)], [(0xfff8, [0x87, 0x77, 0x66, 0x55, 0x44, 0x33, 0x22, 0x11])]⟩,
  ⟨[0xdb, 0x2a, 0xf8, 0xff, 0x40, 0x00, 0x00, 0x00], .atomicOr64 .r10 .r2 (-8),
    4, [(.r2, 0xffffffff000000ff)], [(0xfff8, [0x88, 0x77, 0x66, 0x55, 0x44, 0x33, 0x22, 0x11])], 5, [(.r2, 0xffffffff000000ff)], [(0xfff8, [0xff, 0x77, 0x66, 0x55, 0xff, 0xff, 0xff, 0xff])]⟩,
  ⟨[0xdb, 0x2a, 0xf8, 0xff, 0x41, 0x00, 0x00, 0x00], .atomicFetchOr64 .r10 .r2 (-8),
    4, [(.r2, 0xffffffff000000ff)], [(0xfff8, [0x88, 0x77, 0x66, 0x55, 0x44, 0x33, 0x22, 0x11])], 5, [(.r2, 0x1122334455667788)], [(0xfff8, [0xff, 0x77, 0x66, 0x55, 0xff, 0xff, 0xff, 0xff])]⟩,
  ⟨[0xdb, 0x2a, 0xf8, 0xff, 0x50, 0x00, 0x00, 0x00], .atomicAnd64 .r10 .r2 (-8),
    4, [(.r2, 0xffffffff000000ff)], [(0xfff8, [0x88, 0x77, 0x66, 0x55, 0x44, 0x33, 0x22, 0x11])], 5, [(.r2, 0xffffffff000000ff)], [(0xfff8, [0x88, 0x00, 0x00, 0x00, 0x44, 0x33, 0x22, 0x11])]⟩,
  ⟨[0xdb, 0x2a, 0xf8, 0xff, 0x51, 0x00, 0x00, 0x00], .atomicFetchAnd64 .r10 .r2 (-8),
    4, [(.r2, 0xffffffff000000ff)], [(0xfff8, [0x88, 0x77, 0x66, 0x55, 0x44, 0x33, 0x22, 0x11])], 5, [(.r2, 0x1122334455667788)], [(0xfff8, [0x88, 0x00, 0x00, 0x00, 0x44, 0x33, 0x22, 0x11])]⟩,
  ⟨[0xdb, 0x2a, 0xf8, 0xff, 0xa0, 0x00, 0x00, 0x00], .atomicXor64 .r10 .r2 (-8),
    4, [(.r2, 0xffffffff000000ff)], [(0xfff8, [0x88, 0x77, 0x66, 0x55, 0x44, 0x33, 0x22, 0x11])], 5, [(.r2, 0xffffffff000000ff)], [(0xfff8, [0x77, 0x77, 0x66, 0x55, 0xbb, 0xcc, 0xdd, 0xee])]⟩,
  ⟨[0xdb, 0x2a, 0xf8, 0xff, 0xa1, 0x00, 0x00, 0x00], .atomicFetchXor64 .r10 .r2 (-8),
    4, [(.r2, 0xffffffff000000ff)], [(0xfff8, [0x88, 0x77, 0x66, 0x55, 0x44, 0x33, 0x22, 0x11])], 5, [(.r2, 0x1122334455667788)], [(0xfff8, [0x77, 0x77, 0x66, 0x55, 0xbb, 0xcc, 0xdd, 0xee])]⟩,
  ⟨[0xdb, 0x2a, 0xf8, 0xff, 0xe1, 0x00, 0x00, 0x00], .atomicXchg64 .r10 .r2 (-8),
    4, [(.r2, 0xaaaaaaaabbbbbbbb)], [(0xfff8, [0x88, 0x77, 0x66, 0x55, 0x44, 0x33, 0x22, 0x11])], 5, [(.r2, 0x1122334455667788)], [(0xfff8, [0xbb, 0xbb, 0xbb, 0xbb, 0xaa, 0xaa, 0xaa, 0xaa])]⟩,
  ⟨[0xdb, 0x2a, 0xf8, 0xff, 0xf1, 0x00, 0x00, 0x00], .atomicCmpxchg64 .r10 .r2 (-8),
    4, [(.r2, 0xffffffff000000ff), (.r0, 0x1122334455667788)], [(0xfff8, [0x88, 0x77, 0x66, 0x55, 0x44, 0x33, 0x22, 0x11])], 5, [(.r2, 0xffffffff000000ff), (.r0, 0x1122334455667788)], [(0xfff8, [0xff, 0x00, 0x00, 0x00, 0xff, 0xff, 0xff, 0xff])]⟩]

theorem test_atomic_little : (atomic_little.all (SpecExample.holds .little)) = true := by decide +kernel

def atomic_big : List SpecExample := [
  ⟨[0xc3, 0xa2, 0xff, 0xf8, 0x00, 0x00, 0x00, 0x00], .atomicAdd32 .r10 .r2 (-8),
    4, [(.r2, 0x00000001ffffffff)], [(0xfff8, [0x55, 0x66, 0x77, 0x88])], 5, [(.r2, 0x00000001ffffffff)], [(0xfff8, [0x55, 0x66, 0x77, 0x87])]⟩,
  ⟨[0xc3, 0xa2, 0xff, 0xf8, 0x00, 0x00, 0x00, 0x01], .atomicFetchAdd32 .r10 .r2 (-8),
    4, [(.r2, 0x00000001ffffffff)], [(0xfff8, [0x55, 0x66, 0x77, 0x88])], 5, [(.r2, 0x0000000055667788)], [(0xfff8, [0x55, 0x66, 0x77, 0x87])]⟩,
  ⟨[0xc3, 0xa2, 0xff, 0xf8, 0x00, 0x00, 0x00, 0x40], .atomicOr32 .r10 .r2 (-8),
    4, [(.r2, 0xffffffff000000ff)], [(0xfff8, [0x55, 0x66, 0x77, 0x88])], 5, [(.r2, 0xffffffff000000ff)], [(0xfff8, [0x55, 0x66, 0x77, 0xff])]⟩,
  ⟨[0xc3, 0xa2, 0xff, 0xf8, 0x00, 0x00, 0x00, 0x41], .atomicFetchOr32 .r10 .r2 (-8),
    4, [(.r2, 0xffffffff000000ff)], [(0xfff8, [0x55, 0x66, 0x77, 0x88])], 5, [(.r2, 0x0000000055667788)], [(0xfff8, [0x55, 0x66, 0x77, 0xff])]⟩,
  ⟨[0xc3, 0xa2, 0xff, 0xf8, 0x00, 0x00, 0x00, 0x50], .atomicAnd32 .r10 .r2 (-8),
    4, [(.r2, 0xffffffff000000ff)], [(0xfff8, [0x55, 0x66, 0x77, 0x88])], 5, [(.r2, 0xffffffff000000ff)], [(0xfff8, [0x00, 0x00, 0x00, 0x88])]⟩,
  ⟨[0xc3, 0xa2, 0xff, 0xf8, 0x00, 0x00, 0x00, 0x51], .atomicFetchAnd32 .r10 .r2 (-8),
    4, [(.r2, 0xffffffff000000ff)], [(0xfff8, [0x55, 0x66, 0x77, 0x88])], 5, [(.r2, 0x0000000055667788)], [(0xfff8, [0x00, 0x00, 0x00, 0x88])]⟩,
  ⟨[0xc3, 0xa2, 0xff, 0xf8, 0x00, 0x00, 0x00, 0xa0], .atomicXor32 .r10 .r2 (-8),
    4, [(.r2, 0xffffffff000000ff)], [(0xfff8, [0x55, 0x66, 0x77, 0x88])], 5, [(.r2, 0xffffffff000000ff)], [(0xfff8, [0x55, 0x66, 0x77, 0x77])]⟩,
  ⟨[0xc3, 0xa2, 0xff, 0xf8, 0x00, 0x00, 0x00, 0xa1], .atomicFetchXor32 .r10 .r2 (-8),
    4, [(.r2, 0xffffffff000000ff)], [(0xfff8, [0x55, 0x66, 0x77, 0x88])], 5, [(.r2, 0x0000000055667788)], [(0xfff8, [0x55, 0x66, 0x77, 0x77])]⟩,
  ⟨[0xc3, 0xa2, 0xff, 0xf8, 0x00, 0x00, 0x00, 0xe1], .atomicXchg32 .r10 .r2 (-8),
    4, [(.r2, 0xaaaaaaaabbbbbbbb)], [(0xfff8, [0x55, 0x66, 0x77, 0x88])], 5, [(.r2, 0x0000000055667788)], [(0xfff8, [0xbb, 0xbb, 0xbb, 0xbb])]⟩,
  ⟨[0xc3, 0xa2, 0xff, 0xf8, 0x00, 0x00, 0x00, 0xf1], .atomicCmpxchg32 .r10 .r2 (-8),
    4, [(.r2, 0xffffffff000000ff), (.r0, 0xdeadbeef55667788)], [(0xfff8, [0x55, 0x66, 0x77, 0x88])], 5, [(.r2, 0xffffffff000000ff), (.r0, 0x0000000055667788)], [(0xfff8, [0x00, 0x00, 0x00, 0xff])]⟩,
  ⟨[0xdb, 0xa2, 0xff, 0xf8, 0x00, 0x00, 0x00, 0x00], .atomicAdd64 .r10 .r2 (-8),
    4, [(.r2, 0xffffffffffffffff)], [(0xfff8, [0x11, 0x22, 0x33, 0x44, 0x55, 0x66, 0x77, 0x88])], 5, [(.r2, 0xffffffffffffffff)], [(0xfff8, [0x11, 0x22, 0x33, 0x44, 0x55, 0x66, 0x77, 0x87])]⟩,
  ⟨[0xdb, 0xa2, 0xff, 0xf8, 0x00, 0x00, 0x00, 0x01], .atomicFetchAdd64 .r10 .r2 (-8),
    4, [(.r2, 0xffffffffffffffff)], [(0xfff8, [0x11, 0x22, 0x33, 0x44, 0x55, 0x66, 0x77, 0x88])], 5, [(.r2, 0x1122334455667788)], [(0xfff8, [0x11, 0x22, 0x33, 0x44, 0x55, 0x66, 0x77, 0x87])]⟩,
  ⟨[0xdb, 0xa2, 0xff, 0xf8, 0x00, 0x00, 0x00, 0x40], .atomicOr64 .r10 .r2 (-8),
    4, [(.r2, 0xffffffff000000ff)], [(0xfff8, [0x11, 0x22, 0x33, 0x44, 0x55, 0x66, 0x77, 0x88])], 5, [(.r2, 0xffffffff000000ff)], [(0xfff8, [0xff, 0xff, 0xff, 0xff, 0x55, 0x66, 0x77, 0xff])]⟩,
  ⟨[0xdb, 0xa2, 0xff, 0xf8, 0x00, 0x00, 0x00, 0x41], .atomicFetchOr64 .r10 .r2 (-8),
    4, [(.r2, 0xffffffff000000ff)], [(0xfff8, [0x11, 0x22, 0x33, 0x44, 0x55, 0x66, 0x77, 0x88])], 5, [(.r2, 0x1122334455667788)], [(0xfff8, [0xff, 0xff, 0xff, 0xff, 0x55, 0x66, 0x77, 0xff])]⟩,
  ⟨[0xdb, 0xa2, 0xff, 0xf8, 0x00, 0x00, 0x00, 0x50], .atomicAnd64 .r10 .r2 (-8),
    4, [(.r2, 0xffffffff000000ff)], [(0xfff8, [0x11, 0x22, 0x33, 0x44, 0x55, 0x66, 0x77, 0x88])], 5, [(.r2, 0xffffffff000000ff)], [(0xfff8, [0x11, 0x22, 0x33, 0x44, 0x00, 0x00, 0x00, 0x88])]⟩,
  ⟨[0xdb, 0xa2, 0xff, 0xf8, 0x00, 0x00, 0x00, 0x51], .atomicFetchAnd64 .r10 .r2 (-8),
    4, [(.r2, 0xffffffff000000ff)], [(0xfff8, [0x11, 0x22, 0x33, 0x44, 0x55, 0x66, 0x77, 0x88])], 5, [(.r2, 0x1122334455667788)], [(0xfff8, [0x11, 0x22, 0x33, 0x44, 0x00, 0x00, 0x00, 0x88])]⟩,
  ⟨[0xdb, 0xa2, 0xff, 0xf8, 0x00, 0x00, 0x00, 0xa0], .atomicXor64 .r10 .r2 (-8),
    4, [(.r2, 0xffffffff000000ff)], [(0xfff8, [0x11, 0x22, 0x33, 0x44, 0x55, 0x66, 0x77, 0x88])], 5, [(.r2, 0xffffffff000000ff)], [(0xfff8, [0xee, 0xdd, 0xcc, 0xbb, 0x55, 0x66, 0x77, 0x77])]⟩,
  ⟨[0xdb, 0xa2, 0xff, 0xf8, 0x00, 0x00, 0x00, 0xa1], .atomicFetchXor64 .r10 .r2 (-8),
    4, [(.r2, 0xffffffff000000ff)], [(0xfff8, [0x11, 0x22, 0x33, 0x44, 0x55, 0x66, 0x77, 0x88])], 5, [(.r2, 0x1122334455667788)], [(0xfff8, [0xee, 0xdd, 0xcc, 0xbb, 0x55, 0x66, 0x77, 0x77])]⟩,
  ⟨[0xdb, 0xa2, 0xff, 0xf8, 0x00, 0x00, 0x00, 0xe1], .atomicXchg64 .r10 .r2 (-8),
    4, [(.r2, 0xaaaaaaaabbbbbbbb)], [(0xfff8, [0x11, 0x22, 0x33, 0x44, 0x55, 0x66, 0x77, 0x88])], 5, [(.r2, 0x1122334455667788)], [(0xfff8, [0xaa, 0xaa, 0xaa, 0xaa, 0xbb, 0xbb, 0xbb, 0xbb])]⟩,
  ⟨[0xdb, 0xa2, 0xff, 0xf8, 0x00, 0x00, 0x00, 0xf1], .atomicCmpxchg64 .r10 .r2 (-8),
    4, [(.r2, 0xffffffff000000ff), (.r0, 0x1122334455667788)], [(0xfff8, [0x11, 0x22, 0x33, 0x44, 0x55, 0x66, 0x77, 0x88])], 5, [(.r2, 0xffffffff000000ff), (.r0, 0x1122334455667788)], [(0xfff8, [0xff, 0xff, 0xff, 0xff, 0x00, 0x00, 0x00, 0xff])]⟩]

theorem test_atomic_big : (atomic_big.all (SpecExample.holds .big)) = true := by decide +kernel

theorem test_decode_call_exit_little : List.all [
  ([0x85, 0x00, 0x00, 0x00, 0x07, 0x00, 0x00, 0x00], .callHelper 7),
  ([0x85, 0x10, 0x03, 0x00, 0x00, 0x00, 0x00, 0x00], .callLocal 3 0),
  ([0x85, 0x20, 0x00, 0x00, 0x07, 0x00, 0x00, 0x00], .callHelperSpecific 7),
  ([0x95, 0x00, 0x00, 0x00, 0x00, 0x00, 0x00, 0x00], .exit)]
  (fun p => decodesTo .little p.1 p.2) = true := by decide +kernel

theorem test_decode_call_exit_big : List.all [
  ([0x85, 0x00, 0x00, 0x00, 0x00, 0x00, 0x00, 0x07], .callHelper 7),
  ([0x85, 0x01, 0x00, 0x03, 0x00, 0x00, 0x00, 0x00], .callLocal 3 0),
  ([0x85, 0x02, 0x00, 0x00, 0x00, 0x00, 0x00, 0x07], .callHelperSpecific 7),
  ([0x95, 0x00, 0x00, 0x00, 0x00, 0x00, 0x00, 0x00], .exit)]
  (fun p => decodesTo .big p.1 p.2) = true := by decide +kernel

theorem test_decode_imm64_little : List.all [
  ([0x18, 0x01, 0x00, 0x00, 0x88, 0x77, 0x66, 0x55, 0x00, 0x00, 0x00, 0x00, 0x44, 0x33, 0x22, 0x11], .lddw .r1 1432778632 287454020),
  ([0x18, 0x11, 0x00, 0x00, 0x05, 0x00, 0x00, 0x00, 0x00, 0x00, 0x00, 0x00, 0x00, 0x00, 0x00, 0x00], .ldMapFd .r1 5),
  ([0x18, 0x21, 0x00, 0x00, 0x05, 0x00, 0x00, 0x00, 0x00, 0x00, 0x00, 0x00, 0x10, 0x00, 0x00, 0x00], .ldMapValueFd .r1 5 16),
  ([0x18, 0x31, 0x00, 0x00, 0x07, 0x00, 0x00, 0x00, 0x00, 0x00, 0x00, 0x00, 0x00, 0x00, 0x00, 0x00], .ldVarAddr .r1 7),
  ([0x18, 0x41, 0x00, 0x00, 0x03, 0x00, 0x00, 0x00, 0x00, 0x00, 0x00, 0x00, 0x00, 0x00, 0x00, 0x00], .ldCodeAddr .r1 3),
  ([0x18, 0x51, 0x00, 0x00, 0x00, 0x00, 0x00, 0x00, 0x00, 0x00, 0x00, 0x00, 0x00, 0x00, 0x00, 0x00], .ldMapIdx .r1 0),
  ([0x18, 0x61, 0x00, 0x00, 0x00, 0x00, 0x00, 0x00, 0x00, 0x00, 0x00, 0x00, 0x10, 0x00, 0x00, 0x00], .ldMapValueIdx .r1 0 16)]
  (fun p => decodesTo .little p.1 p.2) = true := by decide +kernel

theorem test_decode_imm64_big : List.all [
  ([0x18, 0x10, 0x00, 0x00, 0x55, 0x66, 0x77, 0x88, 0x00, 0x00, 0x00, 0x00, 0x11, 0x22, 0x33, 0x44], .lddw .r1 1432778632 287454020),
  ([0x18, 0x11, 0x00, 0x00, 0x00, 0x00, 0x00, 0x05, 0x00, 0x00, 0x00, 0x00, 0x00, 0x00, 0x00, 0x00], .ldMapFd .r1 5),
  ([0x18, 0x12, 0x00, 0x00, 0x00, 0x00, 0x00, 0x05, 0x00, 0x00, 0x00, 0x00, 0x00, 0x00, 0x00, 0x10], .ldMapValueFd .r1 5 16),
  ([0x18, 0x13, 0x00, 0x00, 0x00, 0x00, 0x00, 0x07, 0x00, 0x00, 0x00, 0x00, 0x00, 0x00, 0x00, 0x00], .ldVarAddr .r1 7),
  ([0x18, 0x14, 0x00, 0x00, 0x00, 0x00, 0x00, 0x03, 0x00, 0x00, 0x00, 0x00, 0x00, 0x00, 0x00, 0x00], .ldCodeAddr .r1 3),
  ([0x18, 0x15, 0x00, 0x00, 0x00, 0x00, 0x00, 0x00, 0x00, 0x00, 0x00, 0x00, 0x00, 0x00, 0x00, 0x00], .ldMapIdx .r1 0),
  ([0x18, 0x16, 0x00, 0x00, 0x00, 0x00, 0x00, 0x00, 0x00, 0x00, 0x00, 0x00, 0x00, 0x00, 0x00, 0x10], .ldMapValueIdx .r1 0 16)]
  (fun p => decodesTo .big p.1 p.2) = true := by decide +kernel

theorem test_decode_legacy_little : List.all [
  ([0x20, 0x00, 0x00, 0x00, 0x0e, 0x00, 0x00, 0x00], .ldAbsW 0 0 0 14),
  ([0x28, 0x00, 0x00, 0x00, 0x0e, 0x00, 0x00, 0x00], .ldAbsH 0 0 0 14),
  ([0x30, 0x00, 0x00, 0x00, 0x0e, 0x00, 0x00, 0x00], .ldAbsB 0 0 0 14),
  ([0x38, 0x00, 0x00, 0x00, 0x0e, 0x00, 0x00, 0x00], .ldAbsDw 0 0 0 14),
  ([0x40, 0x00, 0x00, 0x00, 0x0e, 0x00, 0x00, 0x00], .ldIndW 0 0 0 14),
  ([0x48, 0x00, 0x00, 0x00, 0x0e, 0x00, 0x00, 0x00], .ldIndH 0 0 0 14),
  ([0x50, 0x00, 0x00, 0x00, 0x0e, 0x00, 0x00, 0x00], .ldIndB 0 0 0 14),
  ([0x58, 0x00, 0x00, 0x00, 0x0e, 0x00, 0x00, 0x00], .ldIndDw 0 0 0 14)]
  (fun p => decodesTo .little p.1 p.2) = true := by decide +kernel

theorem test_decode_legacy_big : List.all [
  ([0x20, 0x00, 0x00, 0x00, 0x00, 0x00, 0x00, 0x0e], .ldAbsW 0 0 0 14),
  ([0x28, 0x00, 0x00, 0x00, 0x00, 0x00, 0x00, 0x0e], .ldAbsH 0 0 0 14),
  ([0x30, 0x00, 0x00, 0x00, 0x00, 0x00, 0x00, 0x0e], .ldAbsB 0 0 0 14),
  ([0x38, 0x00, 0x00, 0x00, 0x00, 0x00, 0x00, 0x0e], .ldAbsDw 0 0 0 14),
  ([0x40, 0x00, 0x00, 0x00, 0x00, 0x00, 0x00, 0x0e], .ldIndW 0 0 0 14),
  ([0x48, 0x00, 0x00, 0x00, 0x00, 0x00, 0x00, 0x0e], .ldIndH 0 0 0 14),
  ([0x50, 0x00, 0x00, 0x00, 0x00, 0x00, 0x00, 0x0e], .ldIndB 0 0 0 14),
  ([0x58, 0x00, 0x00, 0x00, 0x00, 0x00, 0x00, 0x0e], .ldIndDw 0 0 0 14)]
  (fun p => decodesTo .big p.1 p.2) = true := by decide +kernel

/-! ### Faults, from the vectors of `95_test_vectors.md` and `96_test_vectors_memory.md` -/

/-- A platform with no argument at entry, as the vectors have it. -/
def bare (e : Endian) : Config :=
  { Config.default with
    endian := e
    entryArgs := ⟨.unwritten, .unwritten, .unwritten, .unwritten, .unwritten⟩ }

/-- Helper function 7: called with 3 and 4 it returns 7, as in the example of R247, or fails with 3. -/
def helper7 : HelperEntry :=
  ⟨7, 2, ⟨0, [⟨[3, 4], none, none, .returned (.value 7) [] [], [.faulted 3]⟩]⟩⟩

/-- The platform the vectors call "helpers" and "platform": helper functions 7 and 8, a map with file
descriptor 5 and index 0, variable 7, and code addresses counted from the next instruction. -/
def rich : Config :=
  { bare .little with
    helperAgnostic := [helper7, ⟨8, 1, ⟨1, []⟩⟩], helperSpecific := [helper7]
    hasMaps := true, mapByFd := [(5, 0x7000000000001000)], mapByIdx := [(0, 0x7000000000001000)]
    mva := [(0x7000000000001000, 0x20000)], hasVariables := true, variableAddr := [(7, 0x30000)]
    codeAddr := some [⟨2, 3, 0x0000400000000038⟩] }

/-- A state at entry on a platform, with registers and bytes set and an instruction at `pc`. -/
def start (c : Config) (pc : Nat) (regs : List (Reg × Word)) (mem : List (Nat × List Nat))
    (bytes : List Nat) : State :=
  let s := State.entry c [] []
  withSlots
    { s with
      pc := pc,
      regs := regs.foldl (fun x p => x.set p.1 (.value p.2)) s.regs,
      mem := mem.foldl (fun m p => Memory.writeBytes m p.1 (p.2.map (BitVec.ofNat 8))) [] }
    (slotsOf bytes)

/-- The next state of a step, or the state itself where there is none. -/
def after (s : State) : State :=
  match step s with
  | .next t => t
  | _ => s

/-- The step answers a next state. -/
def steps (s : State) : Bool :=
  match step s with
  | .next _ => true
  | _ => false

/-- The outcome is a next state. -/
def answers (o : StepOutcome) : Bool :=
  match o with
  | .next _ => true
  | _ => false

/-- The outcome is a next state that still runs. -/
def runs (o : StepOutcome) : Bool :=
  match o with
  | .next t => decide (t.status = .running)
  | _ => false

/-- The next state of an instruction, or the state itself where there is none. -/
def ran (i : Instr) (s : State) : State :=
  match exec i s with
  | .next t => t
  | _ => s

/-- The fault vectors: bytes, registers, bytes of memory, the fault. -/
def faultVectors : List (List Nat × List (Reg × Word) × List (Nat × List Nat) × FaultInfo) := [
  -- V19, V24, V65, V66
  ([0x64, 0x01, 0, 0, 0x20, 0, 0, 0], [(.r1, 1)], [], .shiftOversize 32),
  ([0x7c, 0x21, 0, 0, 0, 0, 0, 0], [(.r1, 0x80000000), (.r2, 0xffffffff)], [], .shiftOversize 0xffffffff),
  ([0x67, 0x01, 0, 0, 0xff, 0xff, 0xff, 0xff], [(.r1, 1)], [], .shiftOversize 0xffffffffffffffff),
  ([0x6f, 0x21, 0, 0, 0, 0, 0, 0], [(.r1, 1), (.r2, 0x100000004)], [], .shiftOversize 0x100000004),
  -- V39, V40, V41, V42, V87, V97
  ([0x0c, 0x21, 0, 0, 0, 0, 0, 0], [(.r1, 1)], [], .unwrittenRegister .r2),
  ([0x04, 0x0a, 0, 0, 1, 0, 0, 0], [], [], .illegalInstruction 4 .writeToR10),
  ([0x04, 0x31, 0, 0, 1, 0, 0, 0], [(.r1, 1)], [], .illegalInstruction 4 .nonZeroUnusedField),
  ([0x0c, 0xb1, 0, 0, 0, 0, 0, 0], [(.r1, 1)], [], .illegalInstruction 4 .badRegister),
  ([0x8f, 0x21, 0, 0, 0, 0, 0, 0], [(.r1, 1)], [], .illegalInstruction 4 .reservedOpcode),
  ([0xd4, 0x01, 0, 0, 8, 0, 0, 0], [(.r1, 1)], [], .illegalInstruction 4 .reservedSubOpcode),
  -- V104, V134, V160
  ([0x05, 0, 0xfa, 0xff, 0, 0, 0, 0], [], [], .pcOutOfRange (-1)),
  ([0x05, 0, 3, 0, 1, 0, 0, 0], [], [], .illegalInstruction 4 .nonZeroUnusedField),
  ([0x06, 0, 3, 0, 0, 0, 0, 0], [], [], .illegalInstruction 4 .reservedOpcode),
  -- V169, V172, V176, V179
  ([0x85, 0, 0, 0, 7, 0, 0, 0], [], [], .unknownHelper .agnostic 7),
  ([0x85, 0x10, 0xfa, 0xff, 0, 0, 0, 0], [], [], .pcOutOfRange (-1)),
  ([0x85, 0x30, 0, 0, 0, 0, 0, 0], [], [], .illegalInstruction 4 .reservedSubOpcode),
  ([0x95, 0, 0, 0, 0, 0, 0, 0], [], [], .unwrittenRegister .r0),
  -- V188, V189, V190, V193, V205, V209
  ([0x79, 0xa1, 0xf0, 0xff, 0, 0, 0, 0], [], [], .uninitialisedRead 0xfff0 8),
  ([0x79, 0xa1, 0, 0, 0, 0, 0, 0], [], [], .memoryFault 0x10000 8 .read),
  ([0x61, 0xa1, 0xfe, 0xff, 0, 0, 0, 0], [], [(0xfff8, [1, 2, 3, 4, 5, 6, 7, 8])], .memoryFault 0xfffe 4 .read),
  ([0x71, 0x21, 0xf8, 0xff, 0, 0, 0, 0], [(.r2, 0)], [], .memoryFault 0xfffffffffffffff8 1 .read),
  ([0x7b, 0x1a, 0, 0, 0, 0, 0, 0], [(.r1, 1)], [], .memoryFault 0x10000 8 .write),
  ([0x79, 0xaa, 0xf8, 0xff, 0, 0, 0, 0], [], [], .illegalInstruction 4 .writeToR10),
  -- V238, V240, V242, V244
  ([0xc3, 0x2a, 0xfa, 0xff, 0, 0, 0, 0], [(.r2, 1)], [(0xfff8, [1, 2, 3, 4, 5, 6, 7, 8])],
    .memoryFault 0xfffa 4 .atomic),
  ([0xdb, 0x2a, 0xf0, 0xff, 0, 0, 0, 0], [(.r2, 1)], [], .uninitialisedRead 0xfff0 8),
  ([0xdb, 0x2a, 0xf8, 0xff, 0xe0, 0, 0, 0], [(.r2, 1)], [], .illegalInstruction 4 .reservedSubOpcode),
  ([0xdb, 0xaa, 0xf8, 0xff, 1, 0, 0, 0], [], [], .illegalInstruction 4 .writeToR10),
  -- V253, V255, V257, V263, V266, V267
  ([0x18, 0x11, 0, 0, 5, 0, 0, 0, 0, 0, 0, 0, 0, 0, 0, 0], [], [], .unsupportedFeature 1),
  ([0x18, 0x21, 0, 0, 5, 0, 0, 0, 0, 0, 0, 0, 0, 0, 0, 0x80], [], [], .illegalInstruction 4 .negativeNextImm),
  ([0x18, 0x31, 0, 0, 7, 0, 0, 0, 0, 0, 0, 0, 1, 0, 0, 0], [], [], .illegalInstruction 4 .nonZeroUnusedField),
  ([0x18, 0x71, 0, 0, 7, 0, 0, 0, 0, 0, 0, 0, 0, 0, 0, 0], [], [], .illegalInstruction 4 .reservedSubOpcode),
  ([0x18, 0x01, 0, 0, 7, 0, 0, 0, 0x05, 0, 0, 0, 0, 0, 0, 0], [], [], .illegalInstruction 4 .badSecondSlot),
  ([0x18, 0x01, 0, 0, 7, 0, 0, 0], [], [], .illegalInstruction 4 .truncatedWide),
  -- V268, V275
  ([0x20, 0, 0, 0, 0x0e, 0, 0, 0], [], [], .illegalInstruction 4 .legacyPacketUnsupported),
  ([0x58, 0x63, 0x34, 0x12, 0x0e, 0, 0, 0], [], [], .illegalInstruction 4 .legacyPacketUnsupported)]

theorem test_fault_vectors :
    (faultVectors.all fun v => raises (start (bare .little) 4 v.2.1 v.2.2.1 v.1) v.2.2.2) = true := by
  decide +kernel

/-! ### Calls, EXIT, 64-bit immediates (the examples of R247, R249 to R251, R311 to R317) -/

def helperState : State :=
  { start rich 2 [(.r1, 3), (.r2, 4), (.r6, 0x66)] [] [0x85, 0, 0, 0, 7, 0, 0, 0] with
    choices := [0] }

theorem test_call_helper :
    (after helperState).regs =
        { r0 := .value 7, r1 := .unwritten, r2 := .unwritten, r3 := .unwritten, r4 := .unwritten,
          r5 := .unwritten, r6 := .value 0x66, r7 := .unwritten, r8 := .unwritten,
          r9 := .unwritten, r10 := 0x10000 } ∧ (after helperState).pc = 3 := by decide +kernel

theorem test_call_helper_specific_unknown :
    raises (start (bare .big) 2 [] [] [0x85, 0x02, 0, 0, 0, 0, 0, 7]) (.unknownHelper .specific 7) = true := by
  decide +kernel

def callState : State := start (bare .little) 2 [(.r1, 9), (.r6, 0x66)] [] [0x85, 0x10, 3, 0, 0, 0, 0, 0]

theorem test_call_local :
    (after callState).pc = 6 ∧
    (after callState).frames = [⟨3, 0x10000, .value 0x66, .unwritten, .unwritten, .unwritten⟩] ∧
    (after callState).regs.r10 = 0xfe00 ∧ (after callState).regs.r0 = .unwritten ∧
    (after callState).regs.r1 = .value 9 ∧ (after callState).regs.r6 = .value 0x66 := by decide +kernel

theorem test_call_local_machine :
    (after { callState with cfg := { bare .little with calleeSaved := .machine } }).regs.r6 = .unwritten := by
  decide +kernel

theorem test_call_depth : raises { callState with cfg := { bare .little with calleeFrames := [] } }
    .callDepthExceeded = true := by decide +kernel

def outerExit : State := start (bare .little) 4 [(.r0, 55)] [] [0x95, 0, 0, 0, 0, 0, 0, 0]

theorem test_exit_outermost : (after outerExit).status = .exited 0x37 := by decide +kernel

/-- The inner return of R251's example: slot 3, called from slot 0. -/
def innerExit : State :=
  { start (bare .little) 3 [(.r0, 5), (.r1, 9), (.r6, 0x66)] [] [0x95, 0, 0, 0, 0, 0, 0, 0] with
    regs :=
      { (State.entry (bare .little) [] []).regs with
        r0 := .value 5, r1 := .value 9, r6 := .value 0x66, r10 := 0xfe00 }
    frames := [⟨1, 0x10000, .value 0x66, .unwritten, .unwritten, .unwritten⟩] }

theorem test_exit_inner :
    (after innerExit).pc = 1 ∧ (after innerExit).frames = [] ∧ (after innerExit).regs.r10 = 0x10000 ∧
    (after innerExit).regs.r0 = .value 5 ∧ (after innerExit).regs.r1 = .unwritten ∧
    (after innerExit).regs.r6 = .value 0x66 := by decide +kernel

/-- A callee that has changed R6. -/
def clobbered : State := { innerExit with regs := innerExit.regs.set .r6 (.value 0x77) }

theorem test_exit_clobbered : raises clobbered (.calleeSavedClobbered .r6) = true := by decide +kernel

theorem test_exit_machine_restores :
    (after { clobbered with cfg := { bare .little with calleeSaved := .machine } }).regs.r6 = .value 0x66 := by
  decide +kernel

/-- R1 after a 64-bit immediate at slot 2, and pc. -/
def wide (bytes : List Nat) : RegCell × Nat :=
  ((after (start rich 2 [] [] bytes)).regs.r1, (after (start rich 2 [] [] bytes)).pc)

theorem test_imm64 :
    [wide [0x18, 0x01, 0, 0, 0x88, 0x77, 0x66, 0x55, 0, 0, 0, 0, 0x44, 0x33, 0x22, 0x11],
      wide [0x18, 0x11, 0, 0, 5, 0, 0, 0, 0, 0, 0, 0, 0, 0, 0, 0],
      wide [0x18, 0x21, 0, 0, 5, 0, 0, 0, 0, 0, 0, 0, 0x10, 0, 0, 0],
      wide [0x18, 0x31, 0, 0, 7, 0, 0, 0, 0, 0, 0, 0, 0, 0, 0, 0],
      wide [0x18, 0x41, 0, 0, 3, 0, 0, 0, 0, 0, 0, 0, 0, 0, 0, 0],
      wide [0x18, 0x51, 0, 0, 0, 0, 0, 0, 0, 0, 0, 0, 0, 0, 0, 0],
      wide [0x18, 0x61, 0, 0, 0, 0, 0, 0, 0, 0, 0, 0, 0x10, 0, 0, 0]]
    = [(.value 0x1122334455667788, 4), (.value 0x7000000000001000, 4), (.value 0x20010, 4),
        (.value 0x30000, 4), (.value 0x0000400000000038, 4), (.value 0x7000000000001000, 4),
        (.value 0x20010, 4)] := by decide +kernel

theorem test_imm64_no_answer :
    raises (start rich 4 [] [] [0x18, 0x41, 0, 0, 0xf9, 0xff, 0xff, 0xff, 0, 0, 0, 0, 0, 0, 0, 0])
        (.badPlatformReference 4 (-7)) = true ∧
      raises (start rich 4 [] [] [0x18, 0x61, 0, 0, 1, 0, 0, 0, 0, 0, 0, 0, 8, 0, 0, 0])
        (.badPlatformReference 6 1) = true := by decide +kernel

/-! ### Table words -/

/-- `spec/opcode_table.json` numbers the canonical word of R84: 0x...07 is ADD64_K, a wide one takes 128
bits, and an all-zero word is reserved. -/
theorem test_table_words :
    decodeTableWord 64 0x1122334400000107 = some (.add64K .r1 0x11223344) ∧
    decodeTableWord 128 0x11223344000000005566778800000118 = some (.lddw .r1 0x55667788 0x11223344) ∧
    decodeTableWord 8 0x07 = some (.add64K .r0 0) ∧ decodeTableWord 64 0 = none := by decide +kernel

theorem test_fetch_word :
    (after (State.reset.withFetchWord 64 0x1122334400000107)).regs.r1 = .value 0x11223344 ∧
    (after (State.reset.withFetchWord 128 0x11223344000000005566778800000118)).regs.r1
      = .value 0x1122334455667788 := by decide +kernel

/-! ### `WellFormed` refuses what each of its checks is for -/

def IllFormed (i : Instr) : Prop := i.wellFormed .offset = false ∧ i.wellFormed .imm = false

theorem test_wellformed_alu32_writes_r10 : IllFormed (.add32K .r10 1) := by unfold IllFormed; decide
theorem test_wellformed_alu32_x_writes_r10 : IllFormed (.mov32X .r10 .r1) := by unfold IllFormed; decide
theorem test_wellformed_alu64_writes_r10 : IllFormed (.mov64K .r10 0) := by unfold IllFormed; decide
theorem test_wellformed_alu64_x_writes_r10 : IllFormed (.arsh64X .r10 .r0) := by unfold IllFormed; decide
theorem test_wellformed_neg_writes_r10 : IllFormed (.neg64 .r10) := by unfold IllFormed; decide
theorem test_wellformed_byteswap_writes_r10 : IllFormed (.be64 .r10) := by unfold IllFormed; decide
theorem test_wellformed_load_writes_r10 : IllFormed (.ldxdw .r10 .r10 (-8)) := by unfold IllFormed; decide
theorem test_wellformed_fetch_writes_r10 : IllFormed (.atomicFetchAdd64 .r10 .r10 (-8)) := by
  unfold IllFormed; decide
theorem test_wellformed_exchange_writes_r10 : IllFormed (.atomicXchg32 .r1 .r10 0) := by
  unfold IllFormed; decide
theorem test_wellformed_lddw_writes_r10 : IllFormed (.lddw .r10 1 0) := by unfold IllFormed; decide
theorem test_wellformed_map_writes_r10 : IllFormed (.ldMapFd .r10 5) := by unfold IllFormed; decide
theorem test_wellformed_map_value_fd_negative : IllFormed (.ldMapValueFd .r1 5 0x80000000) := by
  unfold IllFormed; decide
theorem test_wellformed_map_value_idx_negative : IllFormed (.ldMapValueIdx .r1 0 0xffffffff) := by
  unfold IllFormed; decide
theorem test_wellformed_local_call_offset :
    (Instr.callLocal 1 2).wellFormed .imm = false ∧ (Instr.callLocal 1 2).wellFormed .offset = true := by
  decide
theorem test_wellformed_r10_as_source :
    (Instr.stxdw .r10 .r10 (-8)).wellFormed .offset = true ∧
    (Instr.atomicAdd64 .r10 .r10 (-8)).wellFormed .offset = true ∧
    (Instr.atomicCmpxchg64 .r10 .r10 (-8)).wellFormed .offset = true ∧
    (Instr.mov64X .r1 .r10).wellFormed .offset = true := by decide

/-! ### Witnesses: for each statement with hypotheses, a state and operands that meet them, clause by
clause, at a boundary value where a clause has one -/

/-- R0 to R3 hold values, 8 bytes at R10 - 8 hold values, `SHIFT_OVERSIZE = fault`. -/
def rich8 : State :=
  start rich 4 [(.r0, 0), (.r1, 0xfff8), (.r2, 63), (.r3, 64)] [(0xfff8, [1, 2, 3, 4, 5, 6, 7, 8])]
    [0x05, 0, 0, 0, 0, 0, 0, 0]

/-- The same under `SHIFT_OVERSIZE = mask`, `ALIGN_POLICY = strict`, `CALLEE_SAVED = machine`. -/
def strict8 : State :=
  { rich8 with cfg := { rich with shiftOversize := .mask, alignPolicy := .strict, calleeSaved := .machine } }

theorem witness_DecodeInvertsEncode :
    (Instr.callLocal 3 7).wellFormed .offset = true ∧ (Instr.callLocal 0 7).wellFormed .imm = true ∧
    (Instr.ldMapValueIdx .r9 5 0x7fffffff).wellFormed .imm = true ∧
    (Instr.ldAbsW 15 15 1 1).wellFormed .offset = true := by decide

theorem witness_EncodeInvertsDecode :
    decode .big .imm ⟨0x07, 0x10, 0, 0, 0x11, 0x22, 0x33, 0x44⟩ none = .ok (.add64K .r1 0x11223344) ∧
    decode .little .offset ⟨0x18, 0x01, 0, 0, 1, 0, 0, 0⟩ (some ⟨0, 0, 0, 0, 2, 0, 0, 0⟩)
      = .ok (.lddw .r1 1 2) := by decide +kernel

theorem witness_ReservedOpcodesAreRefused :
    (cut .little ⟨0, 0, 0, 0, 0, 0, 0, 0⟩).opcode.toNat ∉ definedOpcodes ∧
    (cut .little ⟨0xff, 0, 0, 0, 0, 0, 0, 0⟩).opcode.toNat ∉ definedOpcodes ∧
    (cut .little ⟨0x18, 0, 0, 0, 0, 0, 0, 0⟩).opcode.toNat ∈ definedOpcodes := by decide +kernel

theorem witness_StepRunsTheDecodedInstruction :
    rich8.status = .running ∧ rich8.prog[rich8.pc]? = some ⟨5, 0, 0, 0, 0, 0, 0, 0⟩ ∧
    decode rich8.cfg.endian rich8.cfg.localCallField ⟨5, 0, 0, 0, 0, 0, 0, 0⟩ rich8.prog[rich8.pc + 1]?
      = .ok (.ja 0) ∧ ∀ r ∈ rich8.regions, r.shared = false := by decide +kernel

theorem witness_StepFaultsAtFetchAndStopsAtTheEnd :
    (State.reset.status = .running ∧ State.reset.prog.length ≤ State.reset.pc) ∧
    ({ rich8 with pc := 0 }.status = .running ∧ { rich8 with pc := 0 }.prog[0]? = some zeroSlot ∧
      decode .little .offset zeroSlot rich8.prog[1]? = .error .reservedOpcode) ∧
    { rich8 with status := .exited 1 }.status ≠ .running := by decide +kernel

/-- A machine with a shared region of 16 bytes that another agent is about to write. -/
def sharing : State :=
  { rich8 with
    grantedRegions := [⟨0x20000, 16, true, true, true⟩]
    agentWrites := [[⟨0x20000, 7⟩, ⟨0x2000f, 8⟩, ⟨0x20010, 9⟩, ⟨0xfff8, 9⟩]] }

theorem witness_OtherAgentsReachOnlySharedBytes :
    (∀ r ∈ sharing.regions, r.shared = true →
      ¬(r.base.toNat ≤ 0x20010 ∧ 0x20010 < r.base.toNat + r.size.toNat)) ∧
    (∀ r ∈ sharing.regions, r.shared = true →
      ¬(r.base.toNat ≤ 0x1ffff ∧ 0x1ffff < r.base.toNat + r.size.toNat)) ∧
    (∃ r ∈ sharing.regions, r.shared = true ∧ r.base.toNat ≤ (0x20000 : Word).toNat ∧
      (0x20000 : Word).toNat < r.base.toNat + r.size.toNat) ∧
    (∃ r ∈ sharing.regions, r.shared = true ∧ r.base.toNat ≤ (0x2000f : Word).toNat ∧
      (0x2000f : Word).toNat < r.base.toNat + r.size.toNat) := by decide +kernel

theorem test_agents_write_shared_bytes :
    Memory.read (agentTurn sharing).mem 0x20000 = some 7 ∧ Memory.read (agentTurn sharing).mem 0x2000f = some 8 ∧
    Memory.read (agentTurn sharing).mem 0x20010 = none ∧
    Memory.read (agentTurn sharing).mem 0xfff8 = some 1 := by decide +kernel

/-- Where no write is listed, what shared bytes hold is the free value: two loads need not agree (R70). -/
theorem test_agents_need_not_stop :
    (agentTurn { sharing with agentWrites := [] }).mem
      = { sharing with agentWrites := [] }.agentMemory
          (Config.otherAgents { sharing with agentWrites := [] }) :=
  rfl

theorem witness_StepKeepsMemoryCanonical :
    Memory.wf rich8.mem = true ∧ steps rich8 = true ∧ Memory.wf sharing.mem = true ∧ steps sharing = true := by
  decide +kernel

theorem linked_callState : CallStackLinked callState := ⟨rfl, trivial, by decide⟩
theorem linked_innerExit : CallStackLinked innerExit := ⟨rfl, ⟨rfl, trivial⟩, by decide⟩

theorem witness_StepKeepsCallStackLinked :
    (callState.cfg.legacyPacket = none ∧ CallStackLinked callState ∧ steps callState = true) ∧
    (innerExit.cfg.legacyPacket = none ∧ CallStackLinked innerExit ∧ steps innerExit = true) :=
  ⟨⟨rfl, linked_callState, by decide +kernel⟩, ⟨rfl, linked_innerExit, by decide +kernel⟩⟩

theorem witness_EntryAndResetMeetTheInvariants :
    Memory.wf [(0, 1), (0xfe00, 2), (2 ^ 64 - 1, 3)] = true := by decide

theorem witness_StepKeepsConfigAndProgram : steps callState = true := by decide +kernel

theorem witness_FaultsArePrecise :
    clobbered.status = .running ∧ steps clobbered = true ∧
    (ran .exit clobbered).status = .faulted (.calleeSavedClobbered .r6) ∧
    (after clobbered).status = .faulted (.calleeSavedClobbered .r6) ∧
    answers (exec .exit clobbered) = true := by decide +kernel

theorem witness_OnlyTheOutermostExitEndsAProgram :
    outerExit.cfg.legacyPacket = none ∧ outerExit.status = .running ∧
    answers (exec .exit outerExit) = true ∧ (ran .exit outerExit).status = .exited 55 := by decide +kernel

theorem witness_InstructionsWriteOnlyTheirRegisters :
    answers (exec (.callLocal 3 0) callState) = true ∧ Reg.r1 ∉ writesOf (.callLocal 3 0) ∧
    answers (exec .exit innerExit) = true ∧ Reg.r0 ∉ writesOf .exit ∧
    answers (exec (.callHelper 7) helperState) = true ∧ Reg.r6 ∉ writesOf (.callHelper 7) := by
  decide +kernel

theorem witness_InstructionsWriteOnlyTheirMemory :
    (answers (exec (.ldxdw .r3 .r1 0) rich8) = true ∧ familyOf (.ldxdw .r3 .r1 0) = .load) ∧
    (answers (exec (.stxdw .r1 .r2 0) rich8) = true ∧
      storeTarget (.stxdw .r1 .r2 0) rich8 = some (0xfff8, 8)) ∧
    (answers (exec (.atomicCmpxchg32 .r1 .r2 4) rich8) = true ∧
      storeTarget (.atomicCmpxchg32 .r1 .r2 4) rich8 = some (0xfffc, 4)) ∧
    (answers (exec (.stb .r9 0 1) rich8) = true ∧ familyOf (.stb .r9 0 1) = .store ∧
      storeTarget (.stb .r9 0 1) rich8 = none) := by decide +kernel

theorem witness_OnlyCallsAndExitMoveTheCallStack :
    answers (exec (.atomicXchg64 .r1 .r2 0) rich8) = true ∧ familyOf (.atomicXchg64 .r1 .r2 0) = .atomic ∧
    answers (exec (.callLocal 0 0) rich8) = true ∧ familyOf (.callLocal 0 0) = .localCall := by decide +kernel

theorem witness_StraightLineInstructionsAdvancePc :
    runs (exec (.lddw .r1 1 2) rich8) = true ∧ runs (exec (.add64X .r1 .r2) rich8) = true ∧
    runs (exec (.callHelper 7) helperState) = true ∧ runs (exec (.stxw .r1 .r2 0) rich8) = true ∧
    familyOf (.lddw .r1 1 2) ∉ [Family.jump, .localCall, .exit, .legacy] ∧
    familyOf (.callHelper 7) ∉ [Family.jump, .localCall, .exit, .legacy] ∧ rich8.status = .running ∧
    helperState.status = .running := by decide +kernel

theorem witness_ReadingAnUnwrittenRegisterFaults :
    readsOf (.atomicCmpxchg64 .r1 .r2 0) = [.r1, .r2] ++ .r0 :: [] ∧
    (∀ q ∈ [Reg.r1, .r2], callState.regs.get .r1 ≠ .unwritten ∧ q ≠ .r0) ∧
    (∀ q ∈ ([] : List Reg), callState.regs.get q ≠ .unwritten) ∧
    readsOf (.add32X .r5 .r1) = [] ++ .r5 :: [.r1] ∧ callState.regs.get .r5 = .unwritten ∧
    readsOf (.stxb .r1 .r5 0) = [.r1] ++ .r5 :: [] ∧
    (∀ q ∈ [Reg.r1], callState.regs.get q ≠ .unwritten) := by decide +kernel

theorem witness_ArithmeticDependsOnItsOperandsOnly :
    familyOf (.add64X .r1 .r2) = .arithmetic ∧ rich8.cfg = { rich8 with pc := 0, mem := [] }.cfg ∧
    (∀ r ∈ readsOf (.add64X .r1 .r2), rich8.regs.get r = { rich8 with pc := 0, mem := [] }.regs.get r) ∧
    runs (exec (.add64X .r1 .r2) rich8) = true ∧
    runs (exec (.add64X .r1 .r2) { rich8 with pc := 0, mem := [] }) = true ∧
    Reg.r1 ∈ writesOf (.add64X .r1 .r2) ∧ Reg.r1 ≠ .r10 := by decide +kernel

/-- Its second clause: an instruction of another family and a legacy one, which may not see these fields. -/
theorem witness_OnlyHelperCallsSeeTheChoices :
    familyOf (.ldxdw .r3 .r1 0) ≠ .helperCall ∧ answers (exec (.ldxdw .r3 .r1 0) rich8) = true ∧
    familyOf (.ldAbsW 3 6 0x1234 14) ≠ .helperCall ∧
    answers (exec (.ldAbsW 3 6 0x1234 14) rich8) = true := by decide +kernel

theorem witness_RegisterWritesReachOneRegister : Reg.r0 ≠ .r10 ∧ Reg.r9 ≠ .r0 := by decide

/-- For Arithmetic64Results, Arithmetic32Results, NegateAndMoveResults and ByteSwapResults: the operands
hold values (dst and src may be one register, and R10 is readable), under both byte orders. -/
theorem witness_ArithmeticResults :
    rich8.regs.get .r1 = .value 0xfff8 ∧ rich8.regs.get .r2 = .value 63 ∧
    rich8.regs.get .r10 = .value 0x10000 ∧ rich8.cfg.endian = .little ∧
    (start (bare .big) 4 [(.r1, 0x1122334455667788)] [] []).cfg.endian = .big ∧
    (start (bare .big) 4 [(.r1, 0x1122334455667788)] [] []).regs.get .r1 = .value 0x1122334455667788 := by
  decide +kernel

/-- For Shift64Results, Shift32Results and ShiftCountRule: counts at 31, 32, 63 and 64, fault and mask. -/
theorem witness_ShiftResults :
    rich8.regs.get .r2 = .value 63 ∧ rich8.regs.get .r3 = .value 64 ∧
    ((63 : Half).signExtend 64).toNat < 64 ∧ 64 ≤ ((64 : Half).signExtend 64).toNat ∧
    64 ≤ ((0xffffffff : Half).signExtend 64).toNat ∧ (31 : Half).toNat < 32 ∧ 32 ≤ (32 : Half).toNat ∧
    rich8.cfg.shiftOversize = .fault ∧ strict8.cfg.shiftOversize = .mask := by decide +kernel

/-- For ConditionalJumps64Go, ConditionalJumps32Go (the target is exactly 0) and
ConditionalJumpsBelowZeroFault (it is exactly -1). -/
theorem witness_ConditionalJumps :
    rich8.regs.get .r1 = .value 0xfff8 ∧ rich8.regs.get .r2 = .value 63 ∧
    (0 : Int) ≤ (rich8.pc : Int) + 1 + (-5 : BitVec 16).toInt ∧
    (rich8.pc : Int) + 1 + (-6 : BitVec 16).toInt < 0 := by decide +kernel

theorem witness_HelperCallsReturn :
    ([Reg.r1, .r2, .r3, .r4, .r5].take 2).map helperState.regs.get = [3, 4].map RegCell.value ∧
    helperState.cfg.helperAgnostic.find? (fun e => decide (e.number = (7 : Half).toInt)) = some helper7 ∧
    helperState.cfg.helperSpecific.find? (fun e => decide (e.number = (7 : Half).toInt)) = some helper7 ∧
    nextHelperOutcome helperState helper7.run [3, 4] = .returned (.value 7) [] [] ∧
    helperOutcome helper7.run [3, 4] helperState.mem helperState.regions 1 = .faulted 3 ∧
    (helper7.run.cases.find?
      (fun c => caseSpeaksOf c [3, 4] helperState.mem helperState.regions)).isSome = true := by decide +kernel

/-- The helper is about to fail: the other outcome of its contract. -/
def failing : State := { helperState with choices := [1] }

theorem witness_HelperCallsFault :
    failing.cfg.helperAgnostic.find? (fun e => decide (e.number = (9 : Half).toInt)) = none ∧
    failing.cfg.helperSpecific.find? (fun e => decide (e.number = (8 : Half).toInt)) = none ∧
    failing.cfg.helperAgnostic.find? (fun e => decide (e.number = (7 : Half).toInt)) = some helper7 ∧
    failing.cfg.helperSpecific.find? (fun e => decide (e.number = (7 : Half).toInt)) = some helper7 ∧
    ([Reg.r1, .r2, .r3, .r4, .r5].take 2).map failing.regs.get = [3, 4].map RegCell.value ∧
    nextHelperOutcome failing helper7.run [3, 4] = .faulted 3 ∧
    ([Reg.r1, .r2, .r3, .r4, .r5].take 2 = [.r1] ++ .r2 :: [] ∧
      (∀ q ∈ [Reg.r1], callState.regs.get q ≠ .unwritten) ∧ callState.regs.get .r2 = .unwritten ∧
      ({ callState with cfg := rich }.cfg.helperAgnostic.find?
        (fun e : HelperEntry => decide (e.number = (7 : Half).toInt))) = some helper7) := by decide +kernel

/-- A line of a helper's contract may name memory and regions, and the live frame is one of these. -/
theorem test_helper_sees_regions :
    caseSpeaksOf ⟨[3, 4], some [], some [⟨0xfe00, 512, true, true, false⟩], .faulted 0, []⟩ [3, 4]
      helperState.mem helperState.regions = true ∧
    caseSpeaksOf ⟨[3, 4], none, some [], .faulted 0, []⟩ [3, 4] helperState.mem helperState.regions
      = false := by decide +kernel

theorem witness_PlatformEditsReachOneByte :
    ∀ e ∈ [(⟨0x20000, some 1⟩ : MemEdit), ⟨0xfff8, none⟩], e.addr.toNat ≠ 0x20001 := by decide

theorem witness_LocalCallEntersCallee :
    callState.frames.length < callState.cfg.maxCallDepth ∧ callState.cfg.localCallField = .offset ∧
    (0 : Int) ≤ (callState.pc : Int) + 1 + (-3 : BitVec 16).toInt ∧
    { innerExit with
      frames := List.replicate 7 ⟨1, 0x10000, .unwritten, .unwritten, .unwritten, .unwritten⟩ }.frames.length
        < innerExit.cfg.maxCallDepth := by decide +kernel

theorem witness_ExitEndsOrReturns :
    (outerExit.frames = [] ∧ outerExit.regs.get .r0 = .value 55) ∧
    (innerExit.frames = ⟨1, 0x10000, .value 0x66, .unwritten, .unwritten, .unwritten⟩ :: [] ∧
      innerExit.regs.r6 = .value 0x66) ∧
    (strict8.cfg.calleeSaved = .machine ∧
      { strict8 with frames := innerExit.frames }.frames = innerExit.frames) := by decide +kernel

/-- A callee that has lost R7, R8 or R9 of its caller and kept R6. -/
def laterClobbered (k : Nat) : State :=
  { innerExit with
    frames :=
      [⟨1, 0x10000, .value 0x66, if k = 0 then .value 2 else .unwritten,
        if k = 1 then .value 3 else .unwritten, if k = 2 then .value 4 else .unwritten⟩] }

theorem witness_LocalCallAndExitFaults :
    ({ innerExit with
      frames := List.replicate 8 ⟨1, 0x10000, .unwritten, .unwritten, .unwritten, .unwritten⟩ }.cfg.maxCallDepth
        ≤ 8) ∧
    (callState.frames.length < callState.cfg.maxCallDepth ∧
      (callState.pc : Int) + 1 + (-4 : BitVec 16).toInt < 0) ∧
    (callState.frames = [] ∧ callState.regs.get .r0 = .unwritten) ∧
    (clobbered.frames = ⟨1, 0x10000, .value 0x66, .unwritten, .unwritten, .unwritten⟩ :: [] ∧
      clobbered.cfg.calleeSaved = .check ∧ clobbered.regs.r6 = .value 0x77) ∧
    (laterClobbered 0).regs.r7 = .unwritten ∧ (laterClobbered 1).regs.r8 = .unwritten ∧
    (laterClobbered 2).regs.r9 = .unwritten ∧ (laterClobbered 2).regs.r6 = .value 0x66 ∧
    (laterClobbered 2).cfg.calleeSaved = .check := by decide +kernel

/-- A callee entered from `callState`, with its result in R0 and its EXIT next. -/
def calleeEnd : State :=
  { after callState with regs := (after callState).regs.set .r0 (.value 1) }

theorem witness_CallAndReturnPreserveCalleeSaved :
    callState.status = .running ∧ answers (exec (.callLocal 3 0) callState) = true ∧
    (ran (.callLocal 3 0) callState).status = .running ∧ calleeEnd.frames = (ran (.callLocal 3 0) callState).frames ∧
    calleeEnd.status = .running ∧ runs (exec .exit calleeEnd) = true := by decide +kernel

theorem witness_DataByteOrder : (8 : Nat) ≤ 8 ∧ ([1, 2, 3, 4, 5, 6, 7, 8] : List Byte).length ≤ 8 := by decide

/-- The bytes of an access are admitted for a kind and hold values. -/
def ready (s : State) (ea : Word) (n : Nat) (kind : AccessKind) : Bool :=
  s.admits ea n kind && (Memory.readBytes s.mem ea.toNat n).isSome

/-- For LoadResults: every size, at the last bytes of the frame. -/
theorem witness_LoadResults :
    rich8.regs.get .r1 = .value 0xfff8 ∧ ready rich8 0xfff8 8 .read = true ∧
    ready rich8 0xfffc 4 .read = true ∧ ready rich8 0xfffe 2 .read = true ∧
    ready rich8 0xffff 1 .read = true ∧ ready strict8 0xfff8 8 .read = true := by decide +kernel

/-- For StoreImmediateResults and StoreRegisterResults: every size, at both ends of the frame. -/
theorem witness_StoreResults :
    rich8.regs.get .r1 = .value 0xfff8 ∧ rich8.regs.get .r2 = .value 63 ∧
    rich8.admits 0xfff8 8 .write = true ∧ rich8.admits 0xfffc 4 .write = true ∧
    rich8.admits 0xfffe 2 .write = true ∧ rich8.admits 0xffff 1 .write = true ∧
    rich8.admits 0xfe00 8 .write = true := by decide +kernel

theorem witness_LoadAndStoreFaults :
    rich8.regs.get .r1 = .value 0xfff8 ∧ rich8.regs.get .r2 = .value 63 ∧
    rich8.admits 0xfffd 4 .read = false ∧ rich8.admits 0xffff 2 .read = false ∧
    rich8.admits 0x10000 1 .read = false ∧ rich8.admits 0xfff9 8 .read = false ∧
    rich8.admits 0xfffd 4 .write = false ∧ rich8.admits 0xffff 2 .write = false ∧
    rich8.admits 0xfdff 1 .write = false ∧ rich8.admits 0xfff9 8 .write = false ∧
    strict8.admits 0xfffa 4 .read = false ∧
    (rich8.admits 0xfff7 1 .read = true ∧ Memory.readBytes rich8.mem 0xfff7 1 = none) ∧
    (rich8.admits 0xfff7 2 .read = true ∧ Memory.readBytes rich8.mem 0xfff7 2 = none) ∧
    (rich8.admits 0xfff5 4 .read = true ∧ Memory.readBytes rich8.mem 0xfff5 4 = none) ∧
    (rich8.admits 0xfff1 8 .read = true ∧ Memory.readBytes rich8.mem 0xfff1 8 = none) := by decide +kernel

/-- For AtomicPrimitiveRule, PlainAtomicResults, FetchingAtomicResults and CompareExchangeResults: the
access is ready at both widths, and R0 does and does not hold the old value. -/
theorem witness_AtomicResults :
    rich8.regs.get .r1 = .value 0xfff8 ∧ rich8.regs.get .r2 = .value 63 ∧ rich8.regs.get .r0 = .value 0 ∧
    ready rich8 0xfff8 8 .atomic = true ∧ ready rich8 0xfffc 4 .atomic = true ∧
    Memory.readBytes rich8.mem 0xfff8 8 = some [1, 2, 3, 4, 5, 6, 7, 8] ∧
    bytesToWord .little [1, 2, 3, 4, 5, 6, 7, 8] ≠ 0 ∧ bytesToWord .little [5, 6, 7, 8] ≠ 0 ∧
    { rich8 with regs := rich8.regs.set .r0 (.value 0x0807060504030201) }.regs.get .r0
      = .value (bytesToWord .little [1, 2, 3, 4, 5, 6, 7, 8]) ∧
    ((0xffffffff04030201 : Word).setWidth 32).setWidth 64 = bytesToWord .little [1, 2, 3, 4] := by
  decide +kernel

/-- R0 is unwritten, which the atomics other than compare and exchange do not mind. -/
def noR0 : State := { rich8 with regs := rich8.regs.set .r0 .unwritten }

theorem witness_AtomicFaults :
    noR0.regs.get .r1 = .value 0xfff8 ∧ noR0.regs.get .r2 = .value 63 ∧ noR0.regs.get .r0 = .unwritten ∧
    noR0.admits 0x10000 8 .atomic = false ∧
    rich8.regs.get .r1 = .value 0xfff8 ∧ rich8.regs.get .r2 = .value 63 ∧ rich8.regs.get .r0 = .value 0 ∧
    rich8.admits 0x10000 4 .atomic = false ∧ rich8.admits 0x10000 8 .atomic = false ∧
    (0xfffa : Word).toNat % 4 ≠ 0 ∧ (0xfffc : Word).toNat % 8 ≠ 0 ∧
    (rich8.admits 0xfff4 4 .atomic = true ∧ Memory.readBytes rich8.mem 0xfff4 4 = none) ∧
    (rich8.admits 0xfff0 8 .atomic = true ∧ Memory.readBytes rich8.mem 0xfff0 8 = none) := by decide +kernel

theorem witness_PlatformLoadResults :
    rich8.cfg.hasMaps = true ∧ rich8.cfg.mapByFd.lookup (5 : Half).toInt = some 0x7000000000001000 ∧
    rich8.cfg.mapByIdx.lookup (0 : Half).toNat = some 0x7000000000001000 ∧
    rich8.cfg.mva.lookup 0x7000000000001000 = some 0x20000 ∧
    rich8.cfg.hasVariables = true ∧ rich8.cfg.variableAddr.lookup (7 : Half).toInt = some 0x30000 ∧
    rich.codeAddr = some [⟨2, 3, 0x0000400000000038⟩] ∧
    [(⟨2, 3, 0x0000400000000038⟩ : CodeAddrEntry)].find?
      (fun e => decide (e.pc = { rich8 with pc := 2 }.pc) && decide (e.offset = (3 : Half).toInt))
        = some ⟨2, 3, 0x0000400000000038⟩ := by decide +kernel

theorem witness_PlatformLoadFaults :
    (callState.cfg.hasMaps = false ∧ callState.cfg.hasVariables = false ∧ callState.cfg.codeAddr = none) ∧
    (rich8.cfg.hasMaps = true ∧ rich8.cfg.mapByFd.lookup (6 : Half).toInt = none ∧
      rich8.cfg.mapByIdx.lookup (1 : Half).toNat = none) ∧
    ({ rich8 with cfg := { rich with mva := [] } }.cfg.mva.lookup 0x7000000000001000 = none) ∧
    (rich8.cfg.hasVariables = true ∧ rich8.cfg.variableAddr.lookup (8 : Half).toInt = none) ∧
    ([(⟨2, 3, 0x0000400000000038⟩ : CodeAddrEntry)].find?
      (fun e => decide (e.pc = rich8.pc) && decide (e.offset = (-7 : Half).toInt)) = none) := by decide +kernel

/-- A state with a legacy instruction next, the function of whose platform is `fn`. -/
def legacyWith (fn : LegacyFunction) : State :=
  start { rich with legacyPacket := some fn } 4 [(.r6, 1)] [] [0x20, 0x63, 0x34, 0x12, 0x0e, 0, 0, 0]

/-- A platform function that ends the program on one instruction in this state and faults on another. -/
def legacyFunction : LegacyFunction :=
  ⟨0, [⟨⟨0x20, 3, 6, 0x1234, 14⟩, (legacyWith ⟨0, []⟩).arch,
      .next (entryRegs rich) 9 [] (some 0) [⟨0xfff0, some 1⟩] []⟩,
    ⟨⟨0x58, 3, 6, 0x1234, 14⟩, (legacyWith ⟨0, []⟩).arch, .fault .callDepthExceeded⟩]⟩

def legacyState : State := legacyWith legacyFunction

theorem witness_LegacyAccessTakesThePlatformsAnswer :
    legacyState.cfg.legacyPacket = some legacyFunction ∧
    legacyAnswer legacyFunction ⟨0x20, 3, 6, 0x1234, 14⟩ legacyState.arch
      = .next (entryRegs rich) 9 [] (some 0) [⟨0xfff0, some 1⟩] [] ∧
    legacyAnswer legacyFunction ⟨0x58, 3, 6, 0x1234, 14⟩ legacyState.arch = .fault .callDepthExceeded := by
  decide +kernel

theorem test_legacy_answer :
    answers (exec (.ldAbsW 3 6 0x1234 14) legacyState) = true ∧
    (after legacyState).status = .exited 0 ∧ (after legacyState).pc = 9 ∧
    Memory.read (after legacyState).mem 0xfff0 = some 1 := by decide +kernel

theorem witness_LegacyAccessIsRefusedByDefault : rich8.cfg.legacyPacket = none := by decide +kernel

/-- For LoadingRefusals: 7 bytes, 16 bytes against limits 1 and 2, no bytes, no limit. -/
theorem witness_LoadingRefusals :
    (List.replicate 7 (0 : Byte)).length % 8 ≠ 0 ∧ (List.replicate 16 (0 : Byte)).length % 8 = 0 ∧
    ({ rich with maxInsns := some 1 }.maxInsns = some 1 ∧ 1 < (List.replicate 16 (0 : Byte)).length / 8) ∧
    (List.replicate 16 (0 : Byte)).length / 8 ≤ 2 ∧ ([] : List Byte).length % 8 = 0 ∧
    rich.maxInsns = none := by decide

end Sys2Proof.Tests
end

section
/-! PROOF. Faults (`00_scope.md` R8, R12; `60_exceptions.md` R340, R344, R345): a step that faults changes
nothing but the status, and the first unwritten register an instruction reads is the one reported. -/

namespace Sys2Proof.Machine

open Sys2Proof

/-! ### A fault changes the status and nothing else -/

/-- A machine that is not running has no step (`10_state.md` R31, R37). -/
theorem step_of_faulted {s : State} {f : FaultInfo} (h : s.status = .faulted f) :
    step s = .fault .noStep := by
  simp [step, h]

@[simp] theorem agentTurn_status (s : State) : (agentTurn s).status = s.status := rfl

/-- An instruction that raises no fault keeps the status, or leaves `Exited` (EXIT with no active call), or
what `cfg.LEGACY_PACKET` answers, which is never a fault here (R251, R325). -/
theorem Effect.status {i : Instr} {s t : State} (h : Effect i s t) :
    t.status = s.status ∨ t.status = .running ∨ ∃ v, t.status = .exited v := by
  cases hf : familyOf i <;> simp only [Effect, hf] at h
  case arithmetic | load | imm64 => obtain ⟨d, v, -, rfl⟩ := h; exact .inl rfl
  case jump => obtain ⟨n, rfl⟩ := h; exact .inl rfl
  case store => obtain ⟨ea, n, v, -, -, rfl⟩ := h; exact .inl rfl
  case atomic =>
    obtain ⟨ea, n, u, -, -, hu, ht⟩ := h
    have hus : u.status = s.status := by
      rcases hu with rfl | ⟨v, rfl⟩ <;> rfl
    rcases ht with ⟨-, rfl⟩ | ⟨d, v, -, rfl⟩ <;> exact .inl hus
  case helperCall => obtain ⟨r, es, gs, rfl⟩ := h; exact .inl rfl
  case localCall => obtain ⟨-, n, rfl⟩ := h; exact .inl rfl
  case exit =>
    obtain ⟨-, ⟨-, v, -, rfl⟩ | ⟨f, rest, -, rfl⟩⟩ := h
    · exact .inr (.inr ⟨v, rfl⟩)
    · exact .inl rfl
  case legacy =>
    obtain ⟨-, regs, pc, frames, st, es, gs, hst, rfl⟩ := h
    exact .inr hst

/-- From a running state, an instruction ends in a faulted status only by `raise` (R340). -/
theorem exec_faulted {i : Instr} {s t : State} {f : FaultInfo} (hs : s.status = .running)
    (h : exec i s = .next t) (ht : t.status = .faulted f) : t = { s with status := .faulted f } := by
  rcases exec_next h with ⟨g, rfl⟩ | he
  · cases ht
    rfl
  · have hne := he.status
    simp [ht, hs] at hne

/-- Settles O14: a fault of the fetch is a `raise` by `step_next`, one of the instruction by
`exec_faulted`, and a faulted machine has no step. -/
theorem faultsArePrecise : Obligations.FaultsArePrecise := by
  refine ⟨fun i s t f hs h ht => exec_faulted hs h ht, fun s t f h ht => ?_⟩
  refine ⟨?_, step_of_faulted ht⟩
  obtain ⟨hs, ⟨g, -, rfl⟩ | ⟨i, -, hi⟩⟩ := step_next h
  · cases ht
    rfl
  · exact exec_faulted ((agentTurn_status s).trans hs) hi ht

/-! ### Every instruction begins by reading its registers in order -/

/-- The outcome `o` at `s` comes from reading `rs` in order and going on with the values read. -/
def BeginsByReading (s : State) (rs : List Reg) (o : StepOutcome) : Prop :=
  ∃ k : List Word → StepOutcome, o = readRegs s rs k

theorem beginsByReading_none (s : State) (o : StepOutcome) : BeginsByReading s [] o :=
  ⟨fun _ => o, rfl⟩

/-- One more register in front, with a continuation `k` that reads the others whatever value it gets. -/
theorem BeginsByReading.cons {s : State} {r : Reg} {rs : List Reg} {k : Word → StepOutcome}
    (h : ∀ v, BeginsByReading s rs (k v)) : BeginsByReading s (r :: rs) (readReg s r k) := by
  choose k' hk' using h
  refine ⟨fun vs => k' (vs.headD 0) vs.tail, ?_⟩
  simp only [readRegs, List.headD_cons, List.tail_cons]
  exact congrArg (readReg s r) (funext hk')

theorem beginsByReading_one {s : State} {a : Reg} {k : Word → StepOutcome} :
    BeginsByReading s [a] (readReg s a k) :=
  .cons fun _ => beginsByReading_none s _

theorem beginsByReading_two {s : State} {a b : Reg} {k : Word → Word → StepOutcome} :
    BeginsByReading s [a, b] (readReg s a fun u => readReg s b (k u)) :=
  .cons fun _ => beginsByReading_one

theorem beginsByReading_three {s : State} {a b c : Reg} {k : Word → Word → Word → StepOutcome} :
    BeginsByReading s [a, b, c] (readReg s a fun u => readReg s b fun v => readReg s c (k u v)) :=
  .cons fun _ => beginsByReading_two

/-- The rule of an instruction begins by reading the registers `readsOf` lists (`10_state.md` R24). -/
theorem exec_beginsByReading (i : Instr) (s : State) : BeginsByReading s (readsOf i) (exec i s) := by
  cases i with
  | mov32K | mov64K | ja | callHelper | callLocal | callHelperSpecific | exit
  | lddw | ldMapFd | ldMapValueFd | ldVarAddr | ldCodeAddr | ldMapIdx | ldMapValueIdx
  | ldAbsW | ldAbsH | ldAbsB | ldAbsDw | ldIndW | ldIndH | ldIndB | ldIndDw =>
    exact beginsByReading_none s _
  | add32K | sub32K | mul32K | div32K | or32K | and32K | lsh32K | rsh32K | mod32K | xor32K | arsh32K
  | add64K | sub64K | mul64K | div64K | or64K | and64K | lsh64K | rsh64K | mod64K | xor64K | arsh64K
  | neg32 | neg64 | mov32X | mov64X | le16 | le32 | le64 | be16 | be32 | be64
  | jeqK | jgtK | jgeK | jsetK | jneK | jsgtK | jsgeK | jltK | jleK | jsltK | jsleK
  | jeq32K | jgt32K | jge32K | jset32K | jne32K | jsgt32K | jsge32K | jlt32K | jle32K | jslt32K
  | jsle32K | ldxw | ldxh | ldxb | ldxdw | stw | sth | stb | stdw =>
    exact beginsByReading_one
  | add32X | sub32X | mul32X | div32X | or32X | and32X | lsh32X | rsh32X | mod32X | xor32X | arsh32X
  | add64X | sub64X | mul64X | div64X | or64X | and64X | lsh64X | rsh64X | mod64X | xor64X | arsh64X
  | jeqX | jgtX | jgeX | jsetX | jneX | jsgtX | jsgeX | jltX | jleX | jsltX | jsleX
  | jeq32X | jgt32X | jge32X | jset32X | jne32X | jsgt32X | jsge32X | jlt32X | jle32X | jslt32X
  | jsle32X | stxw | stxh | stxb | stxdw
  | atomicAdd32 | atomicOr32 | atomicAnd32 | atomicXor32
  | atomicFetchAdd32 | atomicFetchOr32 | atomicFetchAnd32 | atomicFetchXor32 | atomicXchg32
  | atomicAdd64 | atomicOr64 | atomicAnd64 | atomicXor64
  | atomicFetchAdd64 | atomicFetchOr64 | atomicFetchAnd64 | atomicFetchXor64 | atomicXchg64 =>
    exact beginsByReading_two
  | atomicCmpxchg32 | atomicCmpxchg64 => exact beginsByReading_three

/-- Reading registers in order raises `UnwrittenRegister` of the first that is unwritten (R8, R27). -/
theorem readRegs_firstUnwritten {s : State} {before : List Reg} {r : Reg} (after : List Reg)
    (k : List Word → StepOutcome) (hb : ∀ q ∈ before, s.regs.get q ≠ .unwritten)
    (hr : s.regs.get r = .unwritten) :
    readRegs s (before ++ r :: after) k = raise s (.unwrittenRegister r) := by
  induction before generalizing k with
  | nil => exact readReg_unwritten _ hr
  | cons q qs ih =>
    obtain ⟨hq, hqs⟩ := List.forall_mem_cons.1 hb
    cases hv : s.regs.get q with
    | unwritten => exact absurd hv hq
    | value v => exact (readReg_value _ hv).trans (ih _ hqs)

/-- Settles O20: every instruction is a read of `readsOf` in order, and such a read stops at the first
unwritten register. -/
theorem readingAnUnwrittenRegisterFaults : Obligations.ReadingAnUnwrittenRegisterFaults := by
  intro i s before after r hreads hb hr
  obtain ⟨k, hk⟩ := exec_beginsByReading i s
  rw [hk, hreads, readRegs_firstUnwritten after k hb hr, raise_eq]

end Sys2Proof.Machine
end

section
/-! PROOF. Decoding and encoding (`30_encoding.md` R81 to R104): a slot that decodes is the encoding of the
instruction it decodes to. The idea: each row of the opcode map says, field by field, what its word
holds (`Row.parts`); the decoder's checks make that the word it read, and the rows agree with the
encoder (`Row.Faithful`). -/

namespace Sys2Proof

/-! ### Slots and fields -/

/-- Laying the fields cut from a slot out again gives the slot (R81, R83). -/
theorem pack_cut (e : Endian) (w : Slot) : pack e (cut e w) = w := by
  cases e <;> simp only [cut, pack] <;> congr 1 <;> ext k hk <;>
    simp only [BitVec.getElem_extractLsb', BitVec.getLsbD_append, BitVec.getElem_append] <;> grind

/-- The register a 4-bit field names has that number (R82). -/
theorem Reg.num_of_ofNum {v : BitVec 4} {r : Reg} (h : Reg.ofNum v = some r) : r.num = v := by
  revert v r
  decide

theorem Reg.num_getD_ofNum {v : BitVec 4} (h : (Reg.ofNum v).isSome = true) :
    ((Reg.ofNum v).getD .r0).num = v := by
  obtain ⟨r, hr⟩ := Option.isSome_iff_exists.1 h
  rw [hr]
  exact Reg.num_of_ofNum hr

/-! ### Choosing the row (R100 steps 2 and 3) -/

theorem rowFor_ok {field : LocalCallField} {f : Fields} {row : Row} (h : rowFor field f = .ok row) :
    row ∈ rowsOfClass field (f.opcode.extractLsb' 0 3) ∧ row.opcode = f.opcode ∧
      row.selector.selects f = true := by
  unfold rowFor at h
  split at h
  · cases h
  · next r rs hrows =>
    split at h
    · cases h
    · next q hq =>
      cases h
      have hmem : row ∈ rowsOf field f.opcode := hrows ▸ List.mem_of_find?_eq_some hq
      obtain ⟨hclass, hop⟩ := List.mem_filter.1 hmem
      exact ⟨hclass, eq_of_beq hop, by simpa using List.find?_some hq⟩

/-! ### The second slot (R100 step 4) -/

/-- What a second slot holds: there is one for a wide instruction, and it holds `next`. -/
def SecondUse.held (use : SecondUse) (next : Half) : Option Half :=
  match use with
  | .absent => none
  | _ => some next

/-- A wide instruction's second slot is the pseudo instruction that holds `next_imm` (R87). -/
theorem secondImm_wide {e : Endian} {use : SecondUse} {w1 : Option Slot} {next : Half}
    (hu : use ≠ .absent) (h : secondImm e use w1 = .ok next) :
    ∃ w, w1 = some w ∧ cut e w = secondFields next := by
  unfold secondImm at h
  split at h
  · exact absurd rfl hu
  · split at h
    · cases h
    · next w =>
      split at h
      · next hz =>
        cases h
        obtain ⟨hop, hd, hs, ho⟩ := hz
        refine ⟨w, rfl, ?_⟩
        cases hc : cut e w
        simp_all [secondFields]
      · cases h

/-- The slots that an instruction fills are `w0` and, where it is wide, the slot that holds `next`. -/
theorem secondImm_slots {e : Endian} {use : SecondUse} {w1 : Option Slot} {next : Half} (w0 : Slot)
    (h : secondImm e use w1 = .ok next) :
    w0 :: ((use.held next).toList.map fun n => pack e (secondFields n)) =
      (w0 :: w1.toList).take (1 + (use.held next).toList.length) := by
  by_cases hu : use = .absent
  · subst hu
    simp [SecondUse.held]
  · obtain ⟨w, rfl, hw⟩ := secondImm_wide hu h
    have hs : use.held next = some next := by
      cases use with
      | absent => exact absurd rfl hu
      | free | nonNegative | zero => rfl
    simp [hs, ← hw, pack_cut]

/-! ### What a row says of its word -/

/-- A register field, read back from the operands. -/
def RegUse.field (u : RegUse) (r : Reg) (raw : BitVec 4) : BitVec 4 :=
  match u with
  | .zero => 0
  | .read | .written => r.num
  | .free => raw

/-- An `offset` or `imm` field, read back from the operands. -/
def FieldUse.field {n : Nat} (u : FieldUse) (v : BitVec n) : BitVec n :=
  match u with
  | .zero => 0
  | .free => v

/-- The `src_reg` field of a row: the sub-opcode that selects it, else the operand. -/
def Row.srcField (row : Row) (o : Operands) : BitVec 4 :=
  match row.selector with
  | .src v => v
  | _ => row.usage.src.field o.src o.srcRaw

/-- The `imm` field of a row: the sub-opcode that selects it, else the operand. -/
def Row.immField (row : Row) (o : Operands) : Half :=
  match row.selector with
  | .imm v => v
  | _ => row.usage.imm.field o.imm

/-- What the second slot of a row holds: nothing, zero, or the operand. -/
def Row.secondField (row : Row) (o : Operands) : Option Half :=
  match row.usage.second with
  | .absent => none
  | .zero => some 0
  | _ => some o.nextImm

/-- The fields that a row and its operands stand for (R101, read from the row to the word). -/
def Row.parts (row : Row) (o : Operands) : Fields × Option Half :=
  (⟨row.opcode, row.usage.dst.field o.dst o.dstRaw, row.srcField o, row.usage.offset.field o.offset,
    row.immField o⟩, row.secondField o)

/-- What the operands of a row satisfy: R10 is not written, an unused `offset` is zero, a map-value offset
is not negative (R101, R104). -/
structure Row.Fits (row : Row) (o : Operands) : Prop where
  dst : row.usage.dst = .written → o.dst ≠ .r10
  src : row.usage.src = .written → o.src ≠ .r10
  offset : row.usage.offset = .zero → o.offset = 0
  next : row.usage.second = .nonNegative → nextImmInRange o.nextImm = true

/-! ### The operands (R100 steps 5 and 6) -/

/-- The operands that the fields of a slot name. -/
def Fields.operands (f : Fields) (next : Half) : Operands :=
  { dst := (Reg.ofNum f.dst).getD .r0, src := (Reg.ofNum f.src).getD .r0,
    dstRaw := f.dst, srcRaw := f.src, offset := f.offset, imm := f.imm, nextImm := next }

theorem operandsOf_ok {u : Usage} {f : Fields} {next : Half} {o : Operands}
    (h : operandsOf u f next = .ok o) :
    u.unusedZero f next = true ∧ u.nextInRange next = true ∧
      (u.dst.registerOk f.dst = true ∧ u.src.registerOk f.src = true) ∧
      (u.dst.writeOk f.dst = true ∧ u.src.writeOk f.src = true) ∧ o = f.operands next := by
  unfold operandsOf at h
  repeat' split at h
  all_goals simp_all [Fields.operands]

theorem RegUse.field_eq {u : RegUse} {v : BitVec 4} (hz : u.zeroOk v = true)
    (hr : u.registerOk v = true) : u.field ((Reg.ofNum v).getD .r0) v = v := by
  cases u with
  | zero =>
    have hv : v = 0 := by simpa [RegUse.zeroOk] using hz
    exact hv.symm
  | read | written => exact Reg.num_getD_ofNum hr
  | free => rfl

theorem FieldUse.field_eq {n : Nat} {u : FieldUse} {v : BitVec n} (hz : u.zeroOk v = true) :
    u.field v = v := by
  cases u with
  | zero =>
    have hv : v = 0 := by simpa [FieldUse.zeroOk] using hz
    exact hv.symm
  | free => rfl

/-- A written register field names no R10 (R22, R104). -/
theorem RegUse.ne_r10_of_writeOk {v : BitVec 4} (hr : RegUse.written.registerOk v = true)
    (hw : RegUse.written.writeOk v = true) : (Reg.ofNum v).getD .r0 ≠ .r10 := by
  intro h
  have hv := Reg.num_getD_ofNum hr
  rw [h] at hv
  simp [RegUse.writeOk, ← hv, Reg.num] at hw

theorem operandsOf_fits {row : Row} {f : Fields} {next : Half} {o : Operands}
    (h : operandsOf row.usage f next = .ok o) : row.Fits o := by
  obtain ⟨hz, hn, ⟨hrd, hrs⟩, ⟨hwd, hws⟩, rfl⟩ := operandsOf_ok h
  constructor
  · intro hu
    rw [hu] at hrd hwd
    exact RegUse.ne_r10_of_writeOk hrd hwd
  · intro hu
    rw [hu] at hrs hws
    exact RegUse.ne_r10_of_writeOk hrs hws
  · intro hu
    simp only [Usage.unusedZero, Bool.and_eq_true, hu] at hz
    obtain ⟨⟨⟨-, hzo⟩, -⟩, -⟩ := hz
    simpa [Fields.operands, FieldUse.zeroOk] using hzo
  · intro hu
    simpa [hu, Fields.operands, Usage.nextInRange] using hn

theorem Row.srcField_operands {row : Row} {f : Fields} (next : Half)
    (hsel : row.selector.selects f = true) (hz : row.usage.src.zeroOk f.src = true)
    (hr : row.usage.src.registerOk f.src = true) : row.srcField (f.operands next) = f.src := by
  unfold Row.srcField
  split
  · next v hs =>
    simp only [hs, Selector.selects, beq_iff_eq] at hsel
    exact hsel.symm
  · exact RegUse.field_eq hz hr

theorem Row.immField_operands {row : Row} {f : Fields} (next : Half)
    (hsel : row.selector.selects f = true) (hz : row.usage.imm.zeroOk f.imm = true) :
    row.immField (f.operands next) = f.imm := by
  unfold Row.immField
  split
  · next v hs =>
    simp only [hs, Selector.selects, beq_iff_eq] at hsel
    exact hsel.symm
  · exact FieldUse.field_eq hz

theorem Row.secondField_operands {row : Row} (f : Fields) {next : Half}
    (hz : row.usage.second.zeroOk next = true) :
    row.secondField (f.operands next) = row.usage.second.held next := by
  unfold Row.secondField
  split
  · next hu => simp [hu, SecondUse.held]
  · next hu =>
    have hn : next = 0 := by simpa [hu, SecondUse.zeroOk] using hz
    simp [hu, hn, SecondUse.held]
  · next ha _ =>
    cases hu : row.usage.second with
    | absent => exact absurd hu ha
    | free | nonNegative | zero => rfl

/-- The operands that pass the decoder's checks stand for the fields they were read from. -/
theorem operandsOf_parts {row : Row} {f : Fields} {next : Half} {o : Operands}
    (hop : row.opcode = f.opcode) (hsel : row.selector.selects f = true)
    (h : operandsOf row.usage f next = .ok o) : row.parts o = (f, row.usage.second.held next) := by
  obtain ⟨hz, -, ⟨hrd, hrs⟩, -, rfl⟩ := operandsOf_ok h
  simp only [Usage.unusedZero, Bool.and_eq_true] at hz
  obtain ⟨⟨⟨⟨hzd, hzs⟩, hzo⟩, hzi⟩, hz2⟩ := hz
  simp only [Row.parts, Row.srcField_operands next hsel hzs hrs, Row.immField_operands next hsel hzi,
    Row.secondField_operands f hz2, hop]
  simp only [Fields.operands, RegUse.field_eq hzd hrd, FieldUse.field_eq hzo]

/-! ### The rows agree with the encoder -/

/-- The row builds an instruction that is encoded as the row says, and that is well formed. -/
def Row.Faithful (field : LocalCallField) (row : Row) : Prop :=
  ∀ o : Operands, row.Fits o → (row.build o).parts = row.parts o ∧ (row.build o).wellFormed field = true

namespace Row.Faithful

variable {field : LocalCallField} {row : Row}

/-- A row whose instruction is well formed with any operands. -/
theorem any (h : ∀ o, (row.build o).parts = row.parts o ∧ (row.build o).wellFormed field = true := by
      exact fun _ => ⟨rfl, rfl⟩) : row.Faithful field :=
  fun o _ => h o

/-- A row that writes `dst`, which is all that its instruction's well-formedness is about. -/
theorem dst (hu : row.usage.dst = .written := by rfl)
    (h : ∀ o, (row.build o).parts = row.parts o ∧
      (row.build o).wellFormed field = o.dst.mayBeWritten := by exact fun _ => ⟨rfl, rfl⟩) :
    row.Faithful field :=
  fun o ho => ⟨(h o).1, (h o).2.trans (decide_eq_true (ho.dst hu))⟩

/-- A row that writes `src`: fetching atomics and exchange (R22). -/
theorem src (hu : row.usage.src = .written := by rfl)
    (h : ∀ o, (row.build o).parts = row.parts o ∧
      (row.build o).wellFormed field = o.src.mayBeWritten := by exact fun _ => ⟨rfl, rfl⟩) :
    row.Faithful field :=
  fun o ho => ⟨(h o).1, (h o).2.trans (decide_eq_true (ho.src hu))⟩

/-- A row that writes `dst` and takes an offset into a map's value area (R313, R317). -/
theorem mapValue (hu : row.usage.dst = .written := by rfl)
    (hn : row.usage.second = .nonNegative := by rfl)
    (h : ∀ o, (row.build o).parts = row.parts o ∧
      (row.build o).wellFormed field = (o.dst.mayBeWritten && nextImmInRange o.nextImm) := by
        exact fun _ => ⟨rfl, rfl⟩) : row.Faithful field :=
  fun o ho => ⟨(h o).1, (h o).2.trans (by simp [Reg.mayBeWritten, ho.dst hu, ho.next hn])⟩

end Row.Faithful

/-- The BPF-local call's row, whose unused `offset` is zero where the displacement is in `imm` (R249). -/
theorem callLocalRow_faithful (field : LocalCallField) :
    Row.Faithful field ⟨0x85, .src 1, .callLocal field, fun o => .callLocal o.offset o.imm⟩ := by
  intro o ho
  cases field with
  | offset => exact ⟨rfl, rfl⟩
  | imm =>
    obtain ⟨_, _, _, _, offset, _, _⟩ := o
    obtain rfl : offset = 0 := ho.offset rfl
    exact ⟨rfl, rfl⟩

theorem ldRows_faithful (field : LocalCallField) : ∀ row ∈ ldRows, row.Faithful field := by
  simp only [ldRows, List.forall_mem_cons]
  exact ⟨.dst, .dst, .mapValue, .dst, .dst, .dst, .mapValue, .any, .any, .any, .any, .any, .any,
    .any, .any, by simp⟩

theorem ldxRows_faithful (field : LocalCallField) : ∀ row ∈ ldxRows, row.Faithful field := by
  intro row hrow
  fin_cases hrow <;> exact .dst

theorem stRows_faithful (field : LocalCallField) : ∀ row ∈ stRows, row.Faithful field := by
  intro row hrow
  fin_cases hrow <;> exact .any

theorem stxRows_faithful (field : LocalCallField) : ∀ row ∈ stxRows, row.Faithful field := by
  simp only [stxRows, List.forall_mem_cons]
  exact ⟨.any, .any, .any, .any, .any, .src, .any, .src, .any, .src, .any, .src, .src, .any, .any,
    .src, .any, .src, .any, .src, .any, .src, .src, .any, by simp⟩

theorem aluRows_faithful (field : LocalCallField) : ∀ row ∈ aluRows, row.Faithful field := by
  intro row hrow
  fin_cases hrow <;> exact .dst

theorem jmpRows_faithful (field : LocalCallField) : ∀ row ∈ jmpRows field, row.Faithful field := by
  simp only [jmpRows, List.forall_mem_cons]
  exact ⟨.any, .any, .any, .any, .any, .any, .any, .any, .any, .any, .any, .any, .any, .any, .any,
    .any, callLocalRow_faithful field, .any, .any, .any, .any, .any, .any, .any, .any, .any, .any,
    by simp⟩

theorem jmp32Rows_faithful (field : LocalCallField) : ∀ row ∈ jmp32Rows, row.Faithful field := by
  intro row hrow
  fin_cases hrow <;> exact .any

theorem alu64Rows_faithful (field : LocalCallField) : ∀ row ∈ alu64Rows, row.Faithful field := by
  intro row hrow
  fin_cases hrow <;> exact .dst

/-- Every row of the opcode map agrees with the encoder. -/
theorem rowsOfClass_faithful (field : LocalCallField) (k : BitVec 3) :
    ∀ row ∈ rowsOfClass field k, row.Faithful field := by
  unfold rowsOfClass
  split
  · exact ldRows_faithful field
  · exact ldxRows_faithful field
  · exact stRows_faithful field
  · exact stxRows_faithful field
  · exact aluRows_faithful field
  · exact jmpRows_faithful field
  · exact jmp32Rows_faithful field
  · exact alu64Rows_faithful field

/-! ### The decoder (R100) -/

/-- What a slot that decodes went through: a row, a second slot, operands. -/
theorem decode_ok {e : Endian} {field : LocalCallField} {w0 : Slot} {w1 : Option Slot} {i : Instr}
    (h : decode e field w0 w1 = .ok i) :
    ∃ row next o, rowFor field (cut e w0) = .ok row ∧
      secondImm e row.usage.second w1 = .ok next ∧
      operandsOf row.usage (cut e w0) next = .ok o ∧ i = row.build o := by
  unfold decode at h
  split at h
  · cases h
  · next row hrow =>
    split at h
    · cases h
    · next next hnext =>
      split at h
      · cases h
      · next o ho =>
        cases h
        exact ⟨row, next, o, hrow, hnext, ho, rfl⟩

/-- Settles O2: the row that was chosen agrees with the encoder, and the operands that passed the checks
stand for the very fields that were read. -/
theorem encodeInvertsDecode : Obligations.EncodeInvertsDecode := by
  intro e field w0 w1 i h
  obtain ⟨row, next, o, hrow, hnext, ho, rfl⟩ := decode_ok h
  obtain ⟨hmem, hop, hsel⟩ := rowFor_ok hrow
  obtain ⟨hparts, hwf⟩ := rowsOfClass_faithful field _ row hmem o (operandsOf_fits ho)
  refine ⟨hwf, ?_⟩
  rw [operandsOf_parts hop hsel ho] at hparts
  simp only [encode, Instr.size, hparts, pack_cut]
  exact secondImm_slots w0 hnext

end Sys2Proof
end

section
/-! PROOF. What an instruction leaves as it was, and the invariants that every step keeps (`10_state.md` R22
to R40). Everything here follows from one lemma, `exec_cases`: a step raises a fault, or it is a plain
one that moves pc and touches at most one register and its own bytes, or it is a call, EXIT or a legacy
instruction. -/

namespace Sys2Proof.Machine

open Sys2Proof

/-! ### The kinds of step -/

/-- A step of an arithmetic, jump, load, store, atomic or 64-bit immediate instruction that raised no
fault: it changes at most the register that the instruction writes, pc and data memory. -/
structure PlainStep (i : Instr) (s t : State) : Prop where
  frame : t = { s with regs := t.regs, pc := t.pc, mem := t.mem }
  regs : t.regs = s.regs ∨ ∃ d v, writesOf i = [d] ∧ t.regs = s.regs.set d (.value v)
  mem_wf : Memory.wf s.mem = true → Memory.wf t.mem = true
  pc : familyOf i ≠ .jump → t.pc = s.pc + (if familyOf i = .imm64 then 2 else 1)

/-- A step of a legacy packet access instruction that `cfg.LEGACY_PACKET` answered with a next state. -/
def LegacyStep (i : Instr) (s t : State) : Prop :=
  familyOf i = .legacy ∧ s.cfg.legacyPacket ≠ none ∧
    ∃ (regs : RegFile) (pc : Nat) (frames : List Frame) (st : Status) (edits : List MemEdit)
      (regions : List Region), t = { s with
        regs := regs, pc := pc, frames := frames, status := st
        mem := Memory.editAll s.mem edits, grantedRegions := regions }

/-- The memory part of an atomic operation: it stores at its address, or it does not. -/
theorem atomicStore_frame {s u : State} {ea : Word} {n : Nat}
    (ha : s.admits ea n .atomic = true) (hu : u = s ∨ ∃ v, u = s.store ea n v) :
    u = { s with mem := u.mem } ∧ (Memory.wf s.mem = true → Memory.wf u.mem = true) := by
  rcases hu with rfl | ⟨v, rfl⟩
  · exact ⟨rfl, id⟩
  · exact ⟨rfl, State.store_wf s ea n v .atomic ha⟩

theorem Effect.plain {i : Instr} {s t : State} (h : Effect i s t)
    (hc : familyOf i ∉ [Family.helperCall, .localCall, .exit, .legacy]) : PlainStep i s t := by
  cases hf : familyOf i <;> simp only [Effect, hf] at h
  case arithmetic | load | imm64 =>
    obtain ⟨d, v, hw, rfl⟩ := h
    exact ⟨rfl, .inr ⟨d, v, hw, rfl⟩, id, fun _ => by simp [hf]⟩
  case jump =>
    obtain ⟨n, rfl⟩ := h
    exact ⟨rfl, .inl rfl, id, fun hj => absurd hf hj⟩
  case store =>
    obtain ⟨ea, n, v, -, ha, rfl⟩ := h
    exact ⟨rfl, .inl rfl, State.store_wf s ea n v .write ha, fun _ => by simp [hf]⟩
  case atomic =>
    obtain ⟨ea, n, u, -, ha, hu, ht⟩ := h
    obtain ⟨hus, hwf⟩ := atomicStore_frame ha hu
    generalize u.mem = m at hus hwf
    subst hus
    rcases ht with ⟨-, rfl⟩ | ⟨d, v, hw, rfl⟩
    · exact ⟨rfl, .inl rfl, hwf, fun _ => by simp [hf]⟩
    · exact ⟨rfl, .inr ⟨d, v, hw, rfl⟩, hwf, fun _ => by simp [hf]⟩
  case helperCall | localCall | exit | legacy => simp [hf] at hc

/-- Everything a step of an instruction can be. -/
theorem exec_cases {i : Instr} {s t : State} (h : exec i s = .next t) :
    Raised s t ∨ PlainStep i s t ∨
      (familyOf i = .helperCall ∧ ∃ r es gs, t = helperReturn s r es gs) ∨
      (familyOf i = .localCall ∧ s.frames.length < s.cfg.maxCallDepth ∧ ∃ n, t = enterCallee s n) ∨
      (i = .exit ∧ s.frames = [] ∧
        ∃ v, s.regs.get .r0 = .value v ∧ t = { s with status := .exited v, pc := s.pc + 1 }) ∨
      (i = .exit ∧ ∃ f rest, s.frames = f :: rest ∧ t = leaveCallee s f rest) ∨
      LegacyStep i s t := by
  refine (exec_next h).imp_right fun he => ?_
  by_cases hc : familyOf i ∉ [Family.helperCall, .localCall, .exit, .legacy]
  · exact .inl (he.plain hc)
  · have hmem : familyOf i = .helperCall ∨ familyOf i = .localCall ∨ familyOf i = .exit ∨
        familyOf i = .legacy := by simpa using not_not.1 hc
    rcases hmem with hf | hf | hf | hf <;> simp only [Effect, hf] at he
    · exact .inr (.inl ⟨hf, he⟩)
    · exact .inr (.inr (.inl ⟨hf, he⟩))
    · obtain ⟨hi, ⟨hfr, hv⟩ | hret⟩ := he
      · exact .inr (.inr (.inr (.inl ⟨hi, hfr, hv⟩)))
      · exact .inr (.inr (.inr (.inr (.inl ⟨hi, hret⟩))))
    · obtain ⟨hl, regs, pc, frames, st, es, gs, -, ht⟩ := he
      exact .inr (.inr (.inr (.inr (.inr ⟨hf, hl, regs, pc, frames, st, es, gs, ht⟩))))

/-- A property that other agents, a fault and every instruction keep is kept by every step. -/
theorem step_keeps {P : State → Prop} (hagents : ∀ s, P s → P (agentTurn s))
    (hfault : ∀ s f, P s → P { s with status := .faulted f })
    (hexec : ∀ i s t, P s → exec i s = .next t → P t) {s t : State} (hs : P s)
    (h : step s = .next t) : P t := by
  obtain ⟨-, ⟨f, -, rfl⟩ | ⟨i, -, hi⟩⟩ := step_next h
  · exact hfault _ f (hagents s hs)
  · exact hexec i _ t (hagents s hs) hi

/-! ### Data memory stays canonical (R51, R58) -/

theorem exec_memoryCanonical {i : Instr} {s t : State} (hs : MemoryCanonical s)
    (h : exec i s = .next t) : MemoryCanonical t := by
  rcases exec_cases h with ⟨f, rfl⟩ | hp | ⟨-, r, es, gs, rfl⟩ | ⟨-, -, n, rfl⟩ | ⟨-, -, v, -, rfl⟩ |
    ⟨-, f, rest, -, rfl⟩ | ⟨-, -, regs, pc, frames, st, es, gs, rfl⟩
  · exact hs
  · exact hp.mem_wf hs
  · exact Memory.editAll_wf s.mem es hs
  · exact Memory.forget_wf s.mem _ _ hs
  · exact hs
  · exact hs
  · exact Memory.editAll_wf s.mem es hs

/-- Settles O10: every way to change memory keeps its canonical form. -/
theorem stepKeepsMemoryCanonical : Obligations.StepKeepsMemoryCanonical := fun _ _ hs h =>
  step_keeps agentTurn_wf (fun _ _ hs => hs) (fun _ _ _ hs h => exec_memoryCanonical hs h) hs h

/-! ### The program and the configuration stay (R38, R50) -/

theorem exec_cfg_prog {i : Instr} {s t : State} (h : exec i s = .next t) :
    t.cfg = s.cfg ∧ t.prog = s.prog := by
  rcases exec_cases h with ⟨f, rfl⟩ | hp | ⟨-, r, es, gs, rfl⟩ | ⟨-, -, n, rfl⟩ | ⟨-, -, v, -, rfl⟩ |
    ⟨-, f, rest, -, rfl⟩ | ⟨-, -, regs, pc, frames, st, es, gs, rfl⟩
  case inr.inl =>
    rw [hp.frame]
    exact ⟨rfl, rfl⟩
  all_goals exact ⟨rfl, rfl⟩

/-- Settles O13: no instruction and no other agent has a way to change either. -/
theorem stepKeepsConfigAndProgram : Obligations.StepKeepsConfigAndProgram := fun s _ h =>
  step_keeps (P := fun u => u.cfg = s.cfg ∧ u.prog = s.prog) (fun _ hu => hu) (fun _ _ hu => hu)
    (fun _ _ _ ⟨hc, hp⟩ h => (exec_cfg_prog h).imp (·.trans hc) (·.trans hp)) ⟨rfl, rfl⟩ h

/-! ### The call stack (R25, R36) -/

theorem PlainStep.r10 {i : Instr} {s t : State} (h : PlainStep i s t) : t.regs.r10 = s.regs.r10 := by
  rcases h.regs with hr | ⟨d, v, -, hr⟩ <;> simp [hr]

theorem PlainStep.callStack {i : Instr} {s t : State} (h : PlainStep i s t) :
    t.frames = s.frames ∧ t.grantedRegions = s.grantedRegions ∧ t.status = s.status ∧ t.cfg = s.cfg := by
  rw [h.frame]
  exact ⟨rfl, rfl, rfl, rfl⟩

/-- Entering a callee links its frame to the caller's. -/
theorem enterCallee_linked {s : State} (n : Nat) (hs : CallStackLinked s)
    (hd : s.frames.length < s.cfg.maxCallDepth) : CallStackLinked (enterCallee s n) := by
  obtain ⟨hfp, hframes, -⟩ := hs
  exact ⟨rfl, ⟨hfp, hframes⟩, hd⟩

/-- Returning to the caller gives R10 the frame pointer of the caller's depth back. -/
theorem leaveCallee_linked {s : State} {f : Frame} {rest : List Frame} (hs : CallStackLinked s)
    (hf : s.frames = f :: rest) : CallStackLinked (leaveCallee s f rest) := by
  obtain ⟨-, hframes, hd⟩ := hs
  rw [hf] at hframes hd
  obtain ⟨hfp, hrest⟩ := hframes
  exact ⟨hfp, hrest, (Nat.le_succ _).trans hd⟩

theorem exec_callStackLinked {i : Instr} {s t : State} (hl : s.cfg.legacyPacket = none)
    (hs : CallStackLinked s) (h : exec i s = .next t) : CallStackLinked t := by
  rcases exec_cases h with ⟨f, rfl⟩ | hp | ⟨-, r, es, gs, rfl⟩ | ⟨-, hd, n, rfl⟩ | ⟨-, -, v, -, rfl⟩ |
    ⟨-, f, rest, hf, rfl⟩ | ⟨-, hne, -⟩
  · exact hs
  · obtain ⟨hfr, -, -, hcfg⟩ := hp.callStack
    simpa only [CallStackLinked, hp.r10, hfr, hcfg] using hs
  · exact hs
  · exact enterCallee_linked n hs hd
  · exact hs
  · exact leaveCallee_linked hs hf
  · exact absurd hl hne

/-- Settles O11: only a BPF-local call and EXIT move R10 or the frames, a call to the next depth's frame
and a return to the saved one. -/
theorem stepKeepsCallStackLinked : Obligations.StepKeepsCallStackLinked := fun _ _ hl hs h =>
  (step_keeps (P := fun u => u.cfg.legacyPacket = none ∧ CallStackLinked u) (fun _ hu => hu)
    (fun _ _ hu => hu)
    (fun _ _ _ ⟨hl, hu⟩ h => ⟨by rw [(exec_cfg_prog h).1, hl], exec_callStackLinked hl hu h⟩)
    ⟨hl, hs⟩ h).2

/-- Settles O18: of the kinds of step, only entering and leaving a callee give new frames, and only a
helper's return new regions. -/
theorem onlyCallsAndExitMoveTheCallStack : Obligations.OnlyCallsAndExitMoveTheCallStack := by
  intro i s t h hleg
  rcases exec_cases h with ⟨f, rfl⟩ | hp | ⟨hf, r, es, gs, rfl⟩ | ⟨hf, -, n, rfl⟩ |
    ⟨rfl, -, v, -, rfl⟩ | ⟨rfl, f, rest, -, rfl⟩ | ⟨hf, -⟩
  · exact ⟨fun _ _ => ⟨rfl, rfl⟩, fun _ => rfl⟩
  · obtain ⟨hfr, hgr, -, -⟩ := hp.callStack
    exact ⟨fun _ _ => ⟨hfr, hp.r10⟩, fun _ => hgr⟩
  · exact ⟨fun _ _ => ⟨rfl, rfl⟩, fun hne => absurd hf hne⟩
  · exact ⟨fun hne => absurd hf hne, fun _ => rfl⟩
  · exact ⟨fun _ hne => absurd rfl hne, fun _ => rfl⟩
  · exact ⟨fun _ hne => absurd rfl hne, fun _ => rfl⟩
  · exact absurd hf hleg

/-! ### The status and pc (R31, R37) -/

/-- Settles O15: of the kinds of step, only EXIT with no active call leaves `Exited`. -/
theorem onlyTheOutermostExitEndsAProgram : Obligations.OnlyTheOutermostExitEndsAProgram := by
  intro i s t v hl hs h ht
  have hrun : t.status ≠ s.status := by simp [hs, ht]
  rcases exec_cases h with ⟨f, rfl⟩ | hp | ⟨-, r, es, gs, rfl⟩ | ⟨-, -, n, rfl⟩ |
    ⟨hi, hfr, w, hw, rfl⟩ | ⟨-, f, rest, -, rfl⟩ | ⟨-, hne, -⟩
  · cases ht
  · obtain ⟨-, -, hst, -⟩ := hp.callStack
    exact absurd hst hrun
  · exact absurd rfl hrun
  · exact absurd rfl hrun
  · cases ht
    exact ⟨hi, hfr, hw⟩
  · exact absurd rfl hrun
  · exact absurd hl hne

/-- Settles O19: a plain step advances pc by the instruction's slots, a helper's return by one. -/
theorem straightLineInstructionsAdvancePc : Obligations.StraightLineInstructionsAdvancePc := by
  intro i s t h ht hf hs
  simp only [List.mem_cons, List.not_mem_nil, or_false, not_or] at hf
  obtain ⟨hjump, hlocal, hexit, hlegacy⟩ := hf
  rcases exec_cases h with ⟨f, rfl⟩ | hp | ⟨hh, r, es, gs, rfl⟩ | ⟨hf, -⟩ | ⟨rfl, -⟩ | ⟨rfl, -⟩ | ⟨hf, -⟩
  · cases ht
  · exact hp.pc hjump
  · simp [hh]
  · exact absurd hf hlocal
  · exact absurd rfl hexit
  · exact absurd rfl hexit
  · exact absurd hf hlegacy

/-! ### Registers (R24, R25, R28) -/

theorem writesOf_of_helperCall {i : Instr} (h : familyOf i = .helperCall) :
    writesOf i = [.r0, .r1, .r2, .r3, .r4, .r5] := by
  cases i <;> cases h <;> rfl

theorem writesOf_of_localCall {i : Instr} (h : familyOf i = .localCall) :
    writesOf i = [.r0, .r6, .r7, .r8, .r9, .r10] := by
  cases i <;> cases h
  rfl

theorem writesOf_of_legacy {i : Instr} (h : familyOf i = .legacy) :
    writesOf i = [.r0, .r1, .r2, .r3, .r4, .r5, .r6, .r7, .r8, .r9, .r10] := by
  cases i <;> cases h <;> rfl

theorem mem_writesOf_of_legacy {i : Instr} (h : familyOf i = .legacy) (r : Reg) : r ∈ writesOf i := by
  rw [writesOf_of_legacy h]
  cases r <;> decide

theorem PlainStep.get {i : Instr} {s t : State} {r : Reg} (h : PlainStep i s t) (hr : r ∉ writesOf i) :
    t.regs.get r = s.regs.get r := by
  rcases h.regs with ht | ⟨d, v, hw, ht⟩ <;> rw [ht]
  exact RegFile.get_set_other _ _ _ _ (by simpa [hw] using hr)

/-- A helper's return touches R0 to R5 only (R28). -/
theorem helperReturn_get {s : State} {c : RegCell} {es : List MemEdit} {gs : List Region} {r : Reg}
    (hr : r ∉ [Reg.r0, .r1, .r2, .r3, .r4, .r5]) :
    (helperReturn s c es gs).regs.get r = s.regs.get r := by
  cases r with
  | r0 | r1 | r2 | r3 | r4 | r5 => simp at hr
  | r6 | r7 | r8 | r9 | r10 => rfl

/-- R1 to R5 carry the arguments into a callee (R249, R252). -/
theorem enterCallee_get {s : State} {n : Nat} {r : Reg}
    (hr : r ∉ [Reg.r0, .r6, .r7, .r8, .r9, .r10]) :
    (enterCallee s n).regs.get r = s.regs.get r := by
  cases r with
  | r0 | r6 | r7 | r8 | r9 | r10 => simp at hr
  | r1 | r2 | r3 | r4 | r5 =>
    simp only [enterCallee_regs, calleeSavedRegs]
    cases s.cfg.calleeSaved <;> rfl

/-- Settles O16: for each kind of step, the registers it leaves alone. -/
theorem instructionsWriteOnlyTheirRegisters : Obligations.InstructionsWriteOnlyTheirRegisters := by
  intro i s t r h hr
  rcases exec_cases h with ⟨f, rfl⟩ | hp | ⟨hf, c, es, gs, rfl⟩ | ⟨hf, -, n, rfl⟩ |
    ⟨rfl, -, v, -, rfl⟩ | ⟨rfl, f, rest, -, rfl⟩ | ⟨hf, -⟩
  · rfl
  · exact hp.get hr
  · exact helperReturn_get (writesOf_of_helperCall hf ▸ hr)
  · exact enterCallee_get (writesOf_of_localCall hf ▸ hr)
  · rfl
  · cases r with
    | r0 => rfl
    | _ => simp [writesOf] at hr
  · exact absurd (mem_writesOf_of_legacy hf r) hr

end Sys2Proof.Machine
end

section
/-! PROOF. Fetching and jumping, calls and EXIT, entry and reset: what each does in every case
(`10_state.md` R31, R36 to R39; `43_jump64.md` R190; `45_call_exit.md` R247 to R252). -/

namespace Sys2Proof.Machine

open Sys2Proof

/-! ### The register file (R20, R22) -/

/-- Settles O22: by the laws of reading a written register file. -/
theorem registerWritesReachOneRegister : Obligations.RegisterWritesReachOneRegister := fun x r c =>
  ⟨RegFile.get_set_same x r c, fun q hq => RegFile.get_set_other x r q c hq, RegFile.set_r10 x c,
    RegFile.get_r10 x⟩

/-! ### Fetching (R31, R341) -/

/-- Other agents do not change what is fetched. -/
theorem fetch_agentTurn (s : State) : fetch (agentTurn s) = fetch s := rfl

theorem fetch_pastEnd {s : State} (h : s.prog.length ≤ s.pc) : fetch s = .error (.pcOutOfRange s.pc) := by
  simp [fetch, List.getElem?_eq_none h]

theorem fetch_undecodable {s : State} {w0 : Slot} {reason : DecodeReason}
    (hw : s.prog[s.pc]? = some w0)
    (hd : decode s.cfg.endian s.cfg.localCallField w0 s.prog[s.pc + 1]? = .error reason) :
    fetch s = .error (.illegalInstruction s.pc reason) := by
  simp [fetch, hw, hd]

theorem fetch_decoded {s : State} {w0 : Slot} {i : Instr} (hw : s.prog[s.pc]? = some w0)
    (hd : decode s.cfg.endian s.cfg.localCallField w0 s.prog[s.pc + 1]? = .ok i) :
    fetch s = .ok i := by
  simp [fetch, hw, hd]

theorem step_of_fetch_error {s : State} {f : FaultInfo} (hs : s.status = .running)
    (h : fetch s = .error f) : step s = .next { agentTurn s with status := .faulted f } := by
  rw [step_running hs, stepRunning, fetch_agentTurn, h]
  rfl

theorem step_of_fetch_ok {s : State} {i : Instr} (hs : s.status = .running) (h : fetch s = .ok i) :
    step s = exec i (agentTurn s) := by
  rw [step_running hs, stepRunning, fetch_agentTurn, h]

theorem agentTurn_unshared {s : State} (h : ∀ r ∈ s.regions, r.shared = false) :
    agentTurn s = { s with agentWrites := s.agentWrites.tail, turns := s.turns + 1 } := by
  rw [agentTurn_frame, agentTurn_mem_private s (by simpa using h)]

/-- Settles O7: other agents change nothing that fetching reads, and only the fields that
`agentTurn_frame` names. -/
theorem stepRunsTheDecodedInstruction : Obligations.StepRunsTheDecodedInstruction :=
  fun s _ _ hs hw hd =>
    ⟨step_of_fetch_ok hs (fetch_decoded hw hd), agentTurn_frame s, agentTurn_unshared⟩

/-- Settles O8: both faults are those of `fetch`, taken at the state after other agents' turn. -/
theorem stepFaultsAtFetchAndStopsAtTheEnd : Obligations.StepFaultsAtFetchAndStopsAtTheEnd := by
  intro s
  refine ⟨fun hs hpc => step_of_fetch_error hs (fetch_pastEnd hpc),
    fun w0 reason hs hw hd => step_of_fetch_error hs (fetch_undecodable hw hd), fun hs => ?_⟩
  unfold step
  split
  · exact absurd ‹_› hs
  · rfl

/-! ### Jumping (R190, R191) -/

theorem jump_eq (s : State) (d : Int) :
    jump s d =
      if (s.pc : Int) + 1 + d < 0 then .next { s with status := .faulted (.pcOutOfRange (s.pc + 1 + d)) }
      else .next { s with pc := ((s.pc : Int) + 1 + d).toNat } := rfl

/-- Settles O33: JA and a taken branch are both `jump`, and a 16-bit offset is a signed 16-bit number.
-/
theorem jumpAlwaysGoes : Obligations.JumpAlwaysGoes := by
  refine ⟨fun s offset => ⟨jump_eq s _, jump_eq s _, rfl⟩, fun offset => ⟨?_, ?_⟩⟩
  · simpa using offset.le_toInt
  · exact Int.le_of_lt_add_one (by simpa using offset.toInt_lt)

/-! ### Helper calls (R247, R248, R250) -/

theorem helperCall_returned {space : HelperSpace} {table : List HelperEntry} {imm : Half} {s : State}
    {h : HelperEntry} {args : List Word} {r : RegCell} {edits : List MemEdit} {regions : List Region}
    (hfind : table.find? (fun e => decide (e.number = imm.toInt)) = some h)
    (hargs : (argumentRegisters.take h.nargs.val).map s.regs.get = args.map RegCell.value)
    (hout : nextHelperOutcome s h.run args = .returned r edits regions) :
    helperCall space table imm s = .next (helperReturn s r edits regions) := by
  simp only [helperCall, hfind, readRegs_values _ hargs, hout]

/-- A listed choice names the member of the contract that the next call takes (log 7). -/
theorem nextHelperOutcome_choice (s : State) (run : HelperRun) (args : List Word) (k : Nat)
    (rest : List Nat) :
    nextHelperOutcome { s with choices := k :: rest } run args =
      helperOutcome run args s.mem s.regions k := rfl

/-- Settles O34: a call whose outcome is a return is `helperReturn`; the outcome is member number
`nextChoice` of the contract, and a listed choice makes that number any other. -/
theorem helperCallsReturn : Obligations.HelperCallsReturn := by
  refine ⟨fun s imm h args r edits regions hargs => ⟨?_, ?_⟩, fun s h args => ⟨?_, ?_, ?_⟩⟩
  · exact fun hfind hout => helperCall_returned hfind hargs hout
  · exact fun hfind hout => helperCall_returned hfind hargs hout
  · exact ⟨nextChoice s, rfl⟩
  · rintro o ⟨k, hk⟩
    exact ⟨k, fun rest => (nextHelperOutcome_choice s h.run args k rest).trans hk⟩
  · exact fun c hc o => helperOutcome_of_case hc o

/-! ### BPF-local calls (R249) -/

theorem localDisplacement_eq (field : LocalCallField) (offset : BitVec 16) (imm : Half) :
    localDisplacement field offset imm = if field = .offset then offset.toInt else imm.toInt := by
  cases field <;> rfl

/-- The target of a BPF-local call: `npc` plus the displacement of its field (R249). -/
theorem jumpTarget_localDisplacement (s : State) (offset : BitVec 16) (imm : Half) :
    jumpTarget s (localDisplacement s.cfg.localCallField offset imm) =
      s.pc + 1 + if s.cfg.localCallField = .offset then offset.toInt else imm.toInt := by
  rw [localDisplacement_eq, jumpTarget]

theorem callLocal_tooDeep {s : State} (offset : BitVec 16) (imm : Half)
    (h : s.cfg.maxCallDepth ≤ s.frames.length) :
    execCallLocal offset imm s = raise s .callDepthExceeded := by
  simp [execCallLocal, h]

theorem callLocal_belowZero {s : State} {offset : BitVec 16} {imm : Half}
    (hd : s.frames.length < s.cfg.maxCallDepth)
    (ht : jumpTarget s (localDisplacement s.cfg.localCallField offset imm) < 0) :
    execCallLocal offset imm s =
      raise s (.pcOutOfRange (jumpTarget s (localDisplacement s.cfg.localCallField offset imm))) := by
  simp [execCallLocal, ht, Nat.not_le.2 hd]

theorem callLocal_enters {s : State} {offset : BitVec 16} {imm : Half}
    (hd : s.frames.length < s.cfg.maxCallDepth)
    (ht : 0 ≤ jumpTarget s (localDisplacement s.cfg.localCallField offset imm)) :
    execCallLocal offset imm s =
      .next (enterCallee s (jumpTarget s (localDisplacement s.cfg.localCallField offset imm)).toNat) := by
  simp [execCallLocal, Int.not_lt.2 ht, Nat.not_le.2 hd]

/-- Forgetting bytes makes those `unwritten` and leaves the others alone (R58). -/
theorem Memory.read_forget (m : Memory) (a n x : Nat) :
    Memory.read (Memory.forget m a n) x = if a ≤ x ∧ x < a + n then none else Memory.read m x := by
  split
  · next h =>
    obtain ⟨hlo, hhi⟩ := h
    exact Memory.read_forget_inside m a n x hlo hhi
  · exact Memory.read_forget_outside m a n x (by omega)

theorem enterCallee_regs_eq (s : State) (target : Nat) :
    (enterCallee s target).regs =
      if s.cfg.calleeSaved = .check then
        { s.regs with r0 := .unwritten, r10 := s.cfg.framePtr (s.frames.length + 1) }
      else
        { s.regs with
          r0 := .unwritten, r6 := .unwritten, r7 := .unwritten, r8 := .unwritten, r9 := .unwritten,
          r10 := s.cfg.framePtr (s.frames.length + 1) } := by
  simp only [enterCallee_regs, calleeSavedRegs]
  cases s.cfg.calleeSaved <;> rfl

/-- Settles O37: the call enters the callee, whose registers, frame and memory are the statement's. -/
theorem localCallEntersCallee : Obligations.LocalCallEntersCallee := by
  intro s offset imm disp target fp kept hd ht
  have htarget : _ = target := jumpTarget_localDisplacement s offset imm
  refine ⟨enterCallee s target.toNat, ?_, ?_, fun x => ?_⟩
  · exact htarget ▸ callLocal_enters hd (htarget.symm ▸ ht)
  · exact congrArg (fun regs => { enterCallee s target.toNat with regs := regs })
      (enterCallee_regs_eq s target.toNat)
  · exact Memory.read_forget s.mem _ _ x

/-! ### EXIT (R251) -/

theorem cellKept_iff {saved now : RegCell} :
    cellKept saved now = true ↔ saved = .unwritten ∨ now = saved := by
  cases saved <;> simp [cellKept]

theorem cellKept_false_iff {saved now : RegCell} :
    cellKept saved now = false ↔ saved ≠ .unwritten ∧ now ≠ saved := by
  rw [← Bool.not_eq_true, cellKept_iff, not_or]

theorem exit_outermost {s : State} {v : Word} (hf : s.frames = []) (hv : s.regs.get .r0 = .value v) :
    execExit s = .next { s with status := .exited v, pc := s.pc + 1 } := by
  simp only [execExit, hf, readReg_value _ hv]

theorem exit_outermost_unwritten {s : State} (hf : s.frames = []) (hu : s.regs.get .r0 = .unwritten) :
    execExit s = raise s (.unwrittenRegister .r0) := by
  simp only [execExit, hf, readReg_unwritten _ hu]

theorem exit_returns {s : State} {f : Frame} {rest : List Frame} (hf : s.frames = f :: rest)
    (hc : clobberedRegister s f = none) : execExit s = .next (leaveCallee s f rest) := by
  simp only [execExit, hf, hc]

theorem exit_clobbered {s : State} {f : Frame} {rest : List Frame} {r : Reg}
    (hf : s.frames = f :: rest) (hc : clobberedRegister s f = some r) :
    execExit s = raise s (.calleeSavedClobbered r) := by
  simp only [execExit, hf, hc]

/-- Settles O38: no register is reported as clobbered when each saved value is there again, or none is
checked. -/
theorem exitEndsOrReturns : Obligations.ExitEndsOrReturns := by
  refine fun s => ⟨fun v hf hv => exit_outermost hf hv, fun f rest hf hkept => exit_returns hf ?_⟩
  rcases hkept with hm | ⟨h6, h7, h8, h9⟩
  · simp [clobberedRegister, hm]
  · cases hc : s.cfg.calleeSaved with
    | machine => simp [clobberedRegister, hc]
    | check =>
      simp [clobberedRegister, hc, cellKept_iff.2 h6, cellKept_iff.2 h7, cellKept_iff.2 h8,
        cellKept_iff.2 h9]

/-- Settles O39: each fault is one branch of the call's or of EXIT's rule, taken when the branches
before it are not. -/
theorem localCallAndExitFaults : Obligations.LocalCallAndExitFaults := by
  intro s bad lost
  refine ⟨fun offset imm => ?_, exit_outermost_unwritten, fun f rest hf hc => ?_⟩
  · intro disp target
    have htarget : _ = target := jumpTarget_localDisplacement s offset imm
    exact ⟨callLocal_tooDeep offset imm,
      fun hd ht => htarget ▸ callLocal_belowZero hd (htarget.symm ▸ ht)⟩
  · have hlost (saved now : RegCell) : lost saved now ↔ cellKept saved now = false :=
      cellKept_false_iff.symm
    simp only [hlost]
    exact ⟨fun h6 => exit_clobbered hf (by simp [clobberedRegister, hc, h6]),
      fun h6 h7 => exit_clobbered hf (by simp [clobberedRegister, hc, h6, h7]),
      fun h6 h7 h8 => exit_clobbered hf (by simp [clobberedRegister, hc, h6, h7, h8]),
      fun h6 h7 h8 h9 => exit_clobbered hf (by simp [clobberedRegister, hc, h6, h7, h8, h9])⟩

/-- Settles O40: the record that the return pops is the one that the call pushed. -/
theorem callAndReturnPreserveCalleeSaved : Obligations.CallAndReturnPreserveCalleeSaved := by
  intro s t u w offset imm hs hcall ht hframes hu hexit hw
  rcases callLocal_next hcall with ⟨f, rfl⟩ | ⟨-, n, rfl⟩
  · cases ht
  · rw [enterCallee_frames] at hframes
    rcases exit_next hexit with ⟨f, rfl⟩ | ⟨hnil, -⟩ | ⟨f, rest, hcons, rfl⟩
    · cases hw
    · cases hnil.symm.trans hframes
    · cases hcons.symm.trans hframes
      exact ⟨rfl, rfl, by simp [RegFile.get, callerFrame], by simp [RegFile.get, RegFile.clobberArgs]⟩

/-! ### Entry and reset (R39, R370) -/

theorem entry_linked (c : Config) (prog : List Slot) (mem : Memory) :
    CallStackLinked (State.entry c prog mem) := ⟨rfl, trivial, Nat.zero_le _⟩

/-- Settles O12: no call is active at entry or at reset, and forgetting a frame's bytes keeps memory
canonical. -/
theorem entryAndResetMeetTheInvariants : Obligations.EntryAndResetMeetTheInvariants :=
  ⟨fun c prog mem => ⟨entry_linked c prog mem, Memory.forget_wf mem _ _⟩,
    ⟨rfl, trivial, Nat.zero_le _⟩, rfl, Memory.read_nil⟩

/-- Settles O58: the rows of R39 are the fields of `State.entry`, and its memory is the platform's
with the first frame forgotten. -/
theorem entryState : Obligations.EntryState := by
  intro c prog mem s
  exact ⟨rfl, rfl, rfl, rfl, rfl, rfl, rfl, rfl, rfl, rfl, rfl, rfl, rfl, rfl, rfl,
    Memory.read_forget mem _ _⟩

/-- Settles O59: the reset state is a literal; with no shared region and no slot its step is the fault
of the fetch. -/
theorem resetState : Obligations.ResetState := by
  refine ⟨rfl, fun r hr => ?_, rfl, by decide, ?_⟩
  · cases r with
    | r10 => exact absurd rfl hr
    | _ => rfl
  · have hshared : ∀ r ∈ State.reset.regions, r.shared = false := by decide
    rw [step_of_fetch_error rfl (fetch_pastEnd (Nat.zero_le _)), agentTurn_unshared hshared]
    rfl

end Sys2Proof.Machine
end

section
/-! PROOF. Data memory: what each family of instructions and other agents may do to it, the order of bytes,
addresses and admission (`20_memory.md` R52 to R62, R67, R70). -/

namespace Sys2Proof.Machine

open Sys2Proof

/-! ### What each family may do to memory (R54, R260, R280) -/

/-- Only stores and atomics have a memory operand that is written. -/
theorem familyOf_of_storeOperand {i : Instr} {p : Reg × BitVec 16 × Nat} (h : storeOperand i = some p) :
    familyOf i = .store ∨ familyOf i = .atomic := by
  cases i with
  | stw | sth | stb | stdw | stxw | stxh | stxb | stxdw => exact .inl rfl
  | atomicAdd32 | atomicFetchAdd32 | atomicOr32 | atomicFetchOr32 | atomicAnd32 | atomicFetchAnd32
  | atomicXor32 | atomicFetchXor32 | atomicXchg32 | atomicCmpxchg32
  | atomicAdd64 | atomicFetchAdd64 | atomicOr64 | atomicFetchOr64 | atomicAnd64 | atomicFetchAnd64
  | atomicXor64 | atomicFetchXor64 | atomicXchg64 | atomicCmpxchg64 => exact .inr rfl
  | _ => cases h

theorem familyOf_of_storeTarget {i : Instr} {s : State} {p : Word × Nat} (h : storeTarget i s = some p) :
    familyOf i = .store ∨ familyOf i = .atomic := by
  unfold storeTarget at h
  split at h
  · cases h
  · exact familyOf_of_storeOperand ‹_›

/-- An instruction of these families has no effect on data memory. -/
theorem Effect.mem_unchanged {i : Instr} {s t : State} (h : Effect i s t)
    (hi : familyOf i ∈ [Family.arithmetic, .jump, .exit, .load, .imm64]) : t.mem = s.mem := by
  cases hf : familyOf i <;> simp only [Effect, hf] at h
  case arithmetic | load | imm64 => obtain ⟨d, v, -, rfl⟩ := h; rfl
  case jump => obtain ⟨n, rfl⟩ := h; rfl
  case exit => obtain ⟨-, ⟨-, v, -, rfl⟩ | ⟨f, rest, -, rfl⟩⟩ := h <;> rfl
  case store | atomic | helperCall | localCall | legacy => simp [hf] at hi

/-- A store or an atomic has an address, and touches no byte outside its own there. -/
theorem Effect.mem_outside {i : Instr} {s t : State} (h : Effect i s t)
    (hi : familyOf i = .store ∨ familyOf i = .atomic) :
    ∃ ea n, storeTarget i s = some (ea, n) ∧
      ∀ x : Nat, x < ea.toNat ∨ ea.toNat + n ≤ x → Memory.read t.mem x = Memory.read s.mem x := by
  rcases hi with hf | hf <;> simp only [Effect, hf] at h
  · obtain ⟨ea, n, v, htarget, -, rfl⟩ := h
    exact ⟨ea, n, htarget, State.read_store_other s ea n v⟩
  · obtain ⟨ea, n, u, htarget, -, hu, ht⟩ := h
    have htu : t.mem = u.mem := by
      rcases ht with ⟨-, rfl⟩ | ⟨d, v, -, rfl⟩ <;> rfl
    refine ⟨ea, n, htarget, fun x hx => htu ▸ ?_⟩
    rcases hu with rfl | ⟨v, rfl⟩
    · rfl
    · exact State.read_store_other s ea n v x hx

/-- Settles O17: a fault changes no byte, and each family's effect is one of the two above. -/
theorem instructionsWriteOnlyTheirMemory : Obligations.InstructionsWriteOnlyTheirMemory := by
  intro i s t h
  rcases exec_next h with ⟨f, rfl⟩ | he
  · exact ⟨fun _ => rfl, fun _ _ _ _ _ => rfl, fun _ _ => rfl⟩
  · refine ⟨he.mem_unchanged, fun ea n htarget => ?_, fun hi hnone => ?_⟩
    · obtain ⟨ea', n', htarget', hout⟩ := he.mem_outside (familyOf_of_storeTarget htarget)
      cases htarget.symm.trans htarget'
      exact hout
    · obtain ⟨ea, n, htarget, -⟩ := he.mem_outside (by simpa using hi)
      cases hnone.symm.trans htarget

/-! ### Other agents (R62, R70, R350) -/

theorem State.sharedByte_iff {s : State} {a : Word} :
    s.sharedByte a = true ↔ ∃ r ∈ s.regions, r.shared = true ∧ r.base.toNat ≤ a.toNat ∧
      a.toNat < r.base.toNat + r.size.toNat := by
  have hlt : a.toNat + 1 ≤ 2 ^ 64 := a.isLt
  simp only [State.sharedByte, covers, List.any_eq_true, Bool.and_eq_true, decide_eq_true_eq, hlt,
    and_true, Nat.succ_le_iff]

/-- Other agents' writes leave an address alone that is no shared byte's, be it below 2^64 or not. -/
theorem State.read_agentMemory_unshared (s : State) (ws : List AgentWrite) (x : Nat)
    (hx : ∀ a : Word, s.sharedByte a = true → x ≠ a.toNat) :
    Memory.read (s.agentMemory ws) x = Memory.read s.mem x := by
  unfold State.agentMemory
  generalize s.mem = m
  induction ws generalizing m with
  | nil => rfl
  | cons w ws ih =>
    rw [List.foldl_cons, ih]
    split
    · exact Memory.read_write_other _ _ _ _ (hx _ ‹_›)
    · rfl

theorem agentTurn_read_unshared (s : State) (x : Nat)
    (hx : ∀ a : Word, s.sharedByte a = true → x ≠ a.toNat) :
    Memory.read (agentTurn s).mem x = Memory.read s.mem x := by
  cases h : s.regions.any (fun r => r.shared)
  · rw [agentTurn_mem_private s h]
  · rw [agentTurn_mem_shared s h, State.read_agentMemory_unshared s _ x hx]

/-- A listed write of another agent to a shared byte is done in the coming turn. -/
theorem agentTurn_read_listed (s : State) (x : Word) (b : Byte) (hx : s.sharedByte x = true) :
    Memory.read (agentTurn { s with agentWrites := [[⟨x, b⟩]] }).mem x.toNat = some b := by
  have hmem := agentTurn_mem_shared { s with agentWrites := [[⟨x, b⟩]] } (State.sharedByte_any hx)
  rw [hmem]
  exact State.read_agentMemory_shared { s with agentWrites := [[⟨x, b⟩]] } x b hx

/-- Settles O9: writes to other bytes than shared ones are dropped, and one to a shared byte is done. -/
theorem otherAgentsReachOnlySharedBytes : Obligations.OtherAgentsReachOnlySharedBytes := by
  refine fun s => ⟨agentTurn_frame s, fun x hx => agentTurn_read_unshared s x ?_,
    fun x b hx => agentTurn_read_listed s x b (State.sharedByte_iff.2 hx)⟩
  rintro a ha rfl
  obtain ⟨r, hr, hshared, hin⟩ := State.sharedByte_iff.1 ha
  exact hx r hr hshared hin

/-! ### The order of bytes (R56, R57) -/

/-- One byte more at the low end of a bit vector is one byte more at the front of a little-endian list. -/
theorem toNat_append_byte {w : Nat} {x : BitVec w} {bs : List Byte} (b : Byte)
    (h : x.toNat = littleValue bs) : (x ++ b).toNat = littleValue (b :: bs) := by
  have hb := b.isLt
  rw [BitVec.toNat_append, ← Nat.shiftLeft_add_eq_or_of_lt hb, Nat.shiftLeft_eq, h, littleValue]
  omega

theorem toNat_byte (b : Byte) : b.toNat = littleValue [b] := rfl

theorem toNat_append_two (b0 b1 : Byte) : (b1 ++ b0).toNat = littleValue [b0, b1] :=
  toNat_append_byte b0 (toNat_byte b1)

theorem toNat_append_four (b0 b1 b2 b3 : Byte) :
    (b3 ++ b2 ++ b1 ++ b0).toNat = littleValue [b0, b1, b2, b3] :=
  toNat_append_byte b0 (toNat_append_byte b1 (toNat_append_two b2 b3))

theorem toNat_append_eight (b0 b1 b2 b3 b4 b5 b6 b7 : Byte) :
    (b7 ++ b6 ++ b5 ++ b4 ++ b3 ++ b2 ++ b1 ++ b0).toNat =
      littleValue [b0, b1, b2, b3, b4, b5, b6, b7] :=
  toNat_append_byte b0 (toNat_append_byte b1 (toNat_append_byte b2 (toNat_append_byte b3
    (toNat_append_four b4 b5 b6 b7))))

/-- A number made of the bytes of a list is what a little-endian read of the list gives, zero-extended. -/
theorem bytesToWord_little {w : Nat} {x : BitVec w} {bs : List Byte} (h : x.toNat = littleValue bs) :
    bytesToWord .little bs = x.setWidth 64 := by
  apply BitVec.eq_of_toNat_eq
  rw [bytesToWord, BitVec.toNat_ofNat, BitVec.toNat_setWidth, h]

/-- A big-endian read is a little-endian one of the bytes in the other order. -/
theorem bytesToWord_big (bs : List Byte) : bytesToWord .big bs = bytesToWord .little bs.reverse := rfl

theorem littleValue_littleBytes (n : Nat) (v : Word) :
    littleValue (littleBytes n v) = v.toNat % 256 ^ n := by
  induction n generalizing v with
  | zero => simp [littleBytes, littleValue, Nat.mod_one]
  | succ n ih =>
    rw [littleBytes, littleValue, ih, BitVec.toNat_setWidth, BitVec.toNat_ushiftRight,
      Nat.shiftRight_eq_div_pow, pow_succ' 256 n]
    exact Nat.mod_mul.symm

theorem littleBytes_of_littleValue {v : Word} {bs : List Byte} (h : v.toNat = littleValue bs) :
    littleBytes bs.length v = bs := by
  induction bs generalizing v with
  | nil => rfl
  | cons b bs ih =>
    have hb := b.isLt
    rw [littleValue] at h
    have hlow : v.setWidth 8 = b := BitVec.eq_of_toNat_eq (by rw [BitVec.toNat_setWidth]; omega)
    have hrest : (v >>> 8).toNat = littleValue bs := by
      rw [BitVec.toNat_ushiftRight, Nat.shiftRight_eq_div_pow]
      omega
    rw [List.length_cons, littleBytes, hlow, ih hrest]

theorem toNat_ofNat_littleValue {bs : List Byte} (h : bs.length ≤ 8) :
    (BitVec.ofNat 64 (littleValue bs)).toNat = littleValue bs := by
  have hlt : littleValue bs < 256 ^ 8 :=
    (littleValue_lt bs).trans_le (Nat.pow_le_pow_right (by decide) h)
  rw [BitVec.toNat_ofNat]
  exact Nat.mod_eq_of_lt hlt

/-- Assembling the laid out low bytes of a value gives its low part back. -/
theorem bytesToWord_wordToBytes (e : Endian) (n : Nat) (v : Word) :
    bytesToWord e (wordToBytes e n v) = BitVec.ofNat 64 (v.toNat % 2 ^ (8 * n)) := by
  have hvalue : littleValue (littleBytes n v) = v.toNat % 2 ^ (8 * n) :=
    (littleValue_littleBytes n v).trans (congrArg (v.toNat % ·) (pow_mul 2 8 n).symm)
  cases e with
  | little => rw [wordToBytes, bytesToWord, hvalue]
  | big => rw [wordToBytes, bytesToWord, List.reverse_reverse, hvalue]

/-- Laying out an assembled value gives its bytes back. -/
theorem wordToBytes_bytesToWord (e : Endian) {bs : List Byte} (h : bs.length ≤ 8) :
    wordToBytes e bs.length (bytesToWord e bs) = bs := by
  cases e with
  | little => exact littleBytes_of_littleValue (toNat_ofNat_littleValue h)
  | big =>
    have hrev : bs.reverse.length ≤ 8 := by rwa [List.length_reverse]
    have hbytes := littleBytes_of_littleValue (toNat_ofNat_littleValue hrev)
    rw [List.length_reverse] at hbytes
    rw [wordToBytes, bytesToWord, hbytes, List.reverse_reverse]

/-- Settles O42: reads by counting the bytes as digits, the round trips by the two lemmas above. -/
theorem dataByteOrder : Obligations.DataByteOrder := by
  refine ⟨fun b0 b1 b2 b3 b4 b5 b6 b7 => ?_, fun e n v _ => ?_,
    fun e bs h => wordToBytes_bytesToWord e h⟩
  · simp only [bytesToWord_big, List.reverse_cons, List.reverse_nil, List.nil_append, List.cons_append]
    exact ⟨bytesToWord_little (toNat_byte b0), bytesToWord_little (toNat_byte b0),
      bytesToWord_little (toNat_append_two b0 b1), bytesToWord_little (toNat_append_two b1 b0),
      bytesToWord_little (toNat_append_four b0 b1 b2 b3),
      bytesToWord_little (toNat_append_four b3 b2 b1 b0),
      (bytesToWord_little (toNat_append_eight b0 b1 b2 b3 b4 b5 b6 b7)).trans (BitVec.setWidth_eq _),
      (bytesToWord_little (toNat_append_eight b7 b6 b5 b4 b3 b2 b1 b0)).trans (BitVec.setWidth_eq _)⟩
  · exact ⟨wordToBytes_length e n v, bytesToWord_wordToBytes e n v⟩

/-- The bytes laid out depend on the low part of the value only. -/
theorem wordToBytes_congr (e : Endian) {n : Nat} {v w : Word} (hn : n ≤ 8)
    (h : v.toNat % 2 ^ (8 * n) = w.toNat % 2 ^ (8 * n)) : wordToBytes e n v = wordToBytes e n w := by
  have hrelaid (u : Word) :
      wordToBytes e n (BitVec.ofNat 64 (u.toNat % 2 ^ (8 * n))) = wordToBytes e n u := by
    have hround := wordToBytes_bytesToWord e (bs := wordToBytes e n u) (by rwa [wordToBytes_length])
    rwa [bytesToWord_wordToBytes, wordToBytes_length] at hround
  rw [← hrelaid v, h, hrelaid w]

/-- The four low bytes of a value are those of its low half. -/
theorem wordToBytes_low32 (e : Endian) (v : Word) :
    wordToBytes e 4 (zext64 (low32 v)) = wordToBytes e 4 v :=
  wordToBytes_congr e (by decide) (by simp only [BitVec.toNat_setWidth]; omega)

/-! ### Addresses and admission (R52, R53, R55, R59, R67) -/

/-- Settles O41: sign extension adds the offset as a signed number, and the sum is taken modulo 2^64. -/
theorem effectiveAddressRule : Obligations.EffectiveAddressRule := by
  refine fun base offset => ⟨rfl, ?_⟩
  have hext : ((offset.signExtend 64).toNat : Int) = offset.toInt % 2 ^ 64 := by
    have hlt := (offset.signExtend 64).isLt
    rw [← BitVec.toInt_signExtend_of_le (show 16 ≤ 64 by decide), BitVec.toInt_eq_toNat_cond]
    split <;> omega
  rw [effectiveAddress, BitVec.toNat_add]
  omega

theorem covers_iff {r : Region} {ea : Word} {n : Nat} :
    covers r ea n = true ↔ r.base.toNat ≤ ea.toNat ∧ ea.toNat + n ≤ r.base.toNat + r.size.toNat ∧
      ea.toNat + n ≤ 2 ^ 64 := by
  simp only [covers, Bool.and_eq_true, decide_eq_true_eq, and_assoc]

theorem permits_iff {r : Region} {kind : AccessKind} :
    permits r kind = true ↔
      (kind ≠ .write → r.readable = true) ∧ (kind ≠ .read → r.writable = true) := by
  cases kind <;> simp [permits]

theorem State.alignmentOk_iff {s : State} {ea : Word} {n : Nat} {kind : AccessKind} :
    s.alignmentOk ea n kind = true ↔
      (kind = .atomic ∨ s.cfg.alignPolicy = .strict → ea.toNat % n = 0) := by
  cases kind <;> cases h : s.cfg.alignPolicy <;> simp [State.alignmentOk, h]

theorem State.admits_iff {s : State} {ea : Word} {n : Nat} {kind : AccessKind} :
    s.admits ea n kind = true ↔
      (∃ r ∈ s.regions, covers r ea n = true ∧ permits r kind = true) ∧
        s.alignmentOk ea n kind = true := by
  simp only [State.admits, Bool.and_eq_true, List.any_eq_true]

/-- A misaligned atomic is refused under either policy (R59). -/
theorem State.admits_atomic_misaligned {s : State} {ea : Word} {n : Nat} (h : ea.toNat % n ≠ 0) :
    s.admits ea n .atomic = false := by
  rw [← Bool.not_eq_true, State.admits_iff, State.alignmentOk_iff]
  exact fun ⟨_, haligned⟩ => h (haligned (.inl rfl))

theorem State.mem_framePointers {s : State} {fp : Word} :
    fp ∈ s.framePointers ↔ fp = s.regs.r10 ∨ ∃ f ∈ s.frames, f.fp = fp := by
  simp only [State.framePointers, List.mem_cons, List.mem_map]

/-- Settles O43: admission is the conjunction of the three tests, and the regions are the frames of the
frame pointers and the platform's. -/
theorem admissionRule : Obligations.AdmissionRule := by
  refine fun s ea n kind => ⟨?_, fun r => ?_⟩
  · simp only [State.admits_iff, covers_iff, permits_iff, State.alignmentOk_iff, and_assoc]
  · simp only [State.regions, List.mem_append, List.mem_map, State.mem_framePointers,
      Config.frameRegion, eq_comm (a := r)]
    exact or_comm

end Sys2Proof.Machine
end

section
/-! PROOF. Loads, stores and atomic operations (`46_load_store.md` R260; `20_memory.md` R63;
`47_atomic.md` R280). The idea: each operand form has one lemma for each way its access can end
(refused, on an unwritten byte, done), and every instruction is one of these forms. -/

namespace Sys2Proof.Machine

open Sys2Proof

/-! ### How an access can end (R55, R58) -/

theorem readMem_refused {s : State} {ea : Word} {n : Nat} {kind : AccessKind} (k : Word → StepOutcome)
    (ha : s.admits ea n kind = false) : readMem s ea n kind k = raise s (.memoryFault ea n kind) := by
  simp [readMem, ha]

theorem readMem_unwritten {s : State} {ea : Word} {n : Nat} {kind : AccessKind} (k : Word → StepOutcome)
    (ha : s.admits ea n kind = true) (hb : Memory.readBytes s.mem ea.toNat n = none) :
    readMem s ea n kind k = raise s (.uninitialisedRead ea n) := by
  simp [readMem, ha, hb]

theorem writeMem_refused {s : State} {ea : Word} {n : Nat} (v : Word) (k : State → StepOutcome)
    (ha : s.admits ea n .write = false) :
    writeMem s ea n v k = raise s (.memoryFault ea n .write) := by
  simp [writeMem, ha]

/-- The bytes stored are read back. -/
theorem State.readBytes_store (s : State) (ea : Word) (n : Nat) (v : Word) :
    Memory.readBytes (s.store ea n v).mem ea.toNat n = some (wordToBytes s.cfg.endian n v) := by
  simpa using Memory.readBytes_writeBytes s.mem ea.toNat (wordToBytes s.cfg.endian n v)

/-- The outcome is a next state one slot further, with the registers `regs`, the low `n` bytes of `v` at `ea`
and everything else as at `s`. -/
def StoresAndAdvances (s : State) (regs : RegFile) (ea : Word) (n : Nat) (v : Word)
    (o : StepOutcome) : Prop :=
  ∃ t : State, o = .next t ∧ t = { s with regs := regs, mem := t.mem, pc := s.pc + 1 } ∧
    Memory.readBytes t.mem ea.toNat n = some (wordToBytes s.cfg.endian n v) ∧
    ∀ x : Nat, x < ea.toNat ∨ ea.toNat + n ≤ x → Memory.read t.mem x = Memory.read s.mem x

theorem store_advance_storesAndAdvances (s : State) (ea : Word) (n : Nat) (v : Word) :
    StoresAndAdvances s s.regs ea n v (.next (s.store ea n v).advance) :=
  ⟨_, rfl, rfl, s.readBytes_store ea n v, s.read_store_other ea n v⟩

theorem store_writeBack_storesAndAdvances (s : State) (ea : Word) (n : Nat) (v : Word) (d : Reg)
    (w : Word) :
    StoresAndAdvances s (s.regs.set d (.value w)) ea n v (.next ((s.store ea n v).writeBack d w)) :=
  ⟨_, rfl, rfl, s.readBytes_store ea n v, s.read_store_other ea n v⟩

/-! ### Loads and stores (R260) -/

section

variable {s : State} {dst src : Reg} {offset : BitVec 16} {base v : Word} {n : Nat}

theorem load_bytes {bs : List Byte} (hsrc : s.regs.get src = .value base)
    (ha : s.admits (effectiveAddress base offset) n .read = true)
    (hb : Memory.readBytes s.mem (effectiveAddress base offset).toNat n = some bs) :
    load n dst src offset s = .next (s.writeBack dst (bytesToWord s.cfg.endian bs)) := by
  rw [load, readReg_value _ hsrc, readMem_bytes _ ha hb]

theorem load_refused (hsrc : s.regs.get src = .value base)
    (ha : s.admits (effectiveAddress base offset) n .read = false) :
    load n dst src offset s = raise s (.memoryFault (effectiveAddress base offset) n .read) := by
  rw [load, readReg_value _ hsrc, readMem_refused _ ha]

theorem load_unwritten (hsrc : s.regs.get src = .value base)
    (ha : s.admits (effectiveAddress base offset) n .read = true)
    (hb : Memory.readBytes s.mem (effectiveAddress base offset).toNat n = none) :
    load n dst src offset s = raise s (.uninitialisedRead (effectiveAddress base offset) n) := by
  rw [load, readReg_value _ hsrc, readMem_unwritten _ ha hb]

theorem storeImm_stores (imm : Half) (hdst : s.regs.get dst = .value base)
    (ha : s.admits (effectiveAddress base offset) n .write = true) :
    StoresAndAdvances s s.regs (effectiveAddress base offset) n (sext64 imm)
      (storeImm n dst offset imm s) := by
  rw [storeImm, readReg_value _ hdst, writeMem_admitted _ _ ha]
  exact store_advance_storesAndAdvances s _ n _

theorem storeImm_refused (imm : Half) (hdst : s.regs.get dst = .value base)
    (ha : s.admits (effectiveAddress base offset) n .write = false) :
    storeImm n dst offset imm s = raise s (.memoryFault (effectiveAddress base offset) n .write) := by
  rw [storeImm, readReg_value _ hdst, writeMem_refused _ _ ha]

theorem storeReg_stores (hdst : s.regs.get dst = .value base) (hsrc : s.regs.get src = .value v)
    (ha : s.admits (effectiveAddress base offset) n .write = true) :
    StoresAndAdvances s s.regs (effectiveAddress base offset) n v (storeReg n dst src offset s) := by
  rw [storeReg, readReg_value _ hdst, readReg_value _ hsrc, writeMem_admitted _ _ ha]
  exact store_advance_storesAndAdvances s _ n _

theorem storeReg_refused (hdst : s.regs.get dst = .value base) (hsrc : s.regs.get src = .value v)
    (ha : s.admits (effectiveAddress base offset) n .write = false) :
    storeReg n dst src offset s = raise s (.memoryFault (effectiveAddress base offset) n .write) := by
  rw [storeReg, readReg_value _ hdst, readReg_value _ hsrc, writeMem_refused _ _ ha]

end

/-- Settles O45: the four are `storeImm` at their sizes. -/
theorem storeImmediateResults : Obligations.StoreImmediateResults := by
  intro s dst offset imm base hdst
  exact ⟨storeImm_stores imm hdst, storeImm_stores imm hdst, storeImm_stores imm hdst,
    storeImm_stores imm hdst⟩

/-- Settles O46: the four are `storeReg` at their sizes. -/
theorem storeRegisterResults : Obligations.StoreRegisterResults := by
  intro s dst src offset base v hdst hsrc
  exact ⟨storeReg_stores hdst hsrc, storeReg_stores hdst hsrc, storeReg_stores hdst hsrc,
    storeReg_stores hdst hsrc⟩

/-- Settles O44: the four are `load` at their sizes. -/
theorem loadResults : Obligations.LoadResults := by
  intro s dst src offset base bs hsrc
  exact ⟨fun ⟨ha, hb⟩ => load_bytes hsrc ha hb, fun ⟨ha, hb⟩ => load_bytes hsrc ha hb,
    fun ⟨ha, hb⟩ => load_bytes hsrc ha hb, fun ⟨ha, hb⟩ => load_bytes hsrc ha hb⟩

/-- Settles O47: each is a form's refusal, or a load's unwritten byte. -/
theorem loadAndStoreFaults : Obligations.LoadAndStoreFaults := by
  intro s dst src offset imm base v
  refine ⟨fun hsrc => ?_, fun hdst => ?_, fun hdst hsrc => ?_⟩
  · exact ⟨load_refused hsrc, load_unwritten hsrc, load_refused hsrc, load_unwritten hsrc,
      load_refused hsrc, load_unwritten hsrc, load_refused hsrc, load_unwritten hsrc⟩
  · exact ⟨storeImm_refused imm hdst, storeImm_refused imm hdst, storeImm_refused imm hdst,
      storeImm_refused imm hdst⟩
  · exact ⟨storeReg_refused hdst hsrc, storeReg_refused hdst hsrc, storeReg_refused hdst hsrc,
      storeReg_refused hdst hsrc⟩

/-! ### The atomic primitive (R63) -/

section

variable {s : State} {ea : Word} {n : Nat} {f : Word → Option Word} {bs : List Byte}

theorem atomicRmw_writes {v : Word} (k : State → Word → StepOutcome)
    (ha : s.admits ea n .atomic = true) (hb : Memory.readBytes s.mem ea.toNat n = some bs)
    (hf : f (bytesToWord s.cfg.endian bs) = some v) :
    atomicRmw s ea n f k = k (s.store ea n v) (bytesToWord s.cfg.endian bs) := by
  rw [atomicRmw, readMem_bytes _ ha hb, hf]

theorem atomicRmw_keeps (k : State → Word → StepOutcome)
    (ha : s.admits ea n .atomic = true) (hb : Memory.readBytes s.mem ea.toNat n = some bs)
    (hf : f (bytesToWord s.cfg.endian bs) = none) :
    atomicRmw s ea n f k = k s (bytesToWord s.cfg.endian bs) := by
  rw [atomicRmw, readMem_bytes _ ha hb, hf]

theorem atomicRmw_refused (k : State → Word → StepOutcome) (ha : s.admits ea n .atomic = false) :
    atomicRmw s ea n f k = raise s (.memoryFault ea n .atomic) :=
  readMem_refused _ ha

theorem atomicRmw_unwritten (k : State → Word → StepOutcome) (ha : s.admits ea n .atomic = true)
    (hb : Memory.readBytes s.mem ea.toNat n = none) :
    atomicRmw s ea n f k = raise s (.uninitialisedRead ea n) :=
  readMem_unwritten _ ha hb

end

/-- Settles O48: the primitive is a read, then a store or nothing; a misaligned one is refused. -/
theorem atomicPrimitiveRule : Obligations.AtomicPrimitiveRule := by
  intro s ea n f k _
  refine ⟨fun bs ha hb => ⟨atomicRmw_keeps k ha hb, fun v hf => ?_⟩, atomicRmw_refused k,
    State.admits_atomic_misaligned⟩
  exact ⟨s.store ea n v, atomicRmw_writes k ha hb hf, rfl, s.readBytes_store ea n v,
    s.read_store_other ea n v⟩

/-! ### Atomic operations (R280) -/

/-- The outcome of an atomic whose access cannot be done: `MemoryFault` when it is refused, else
`UninitialisedRead` when a byte is unwritten. -/
def FaultsAsAtomic (s : State) (ea : Word) (n : Nat) (o : StepOutcome) : Prop :=
  (s.admits ea n .atomic = false →
    o = .next { s with status := .faulted (.memoryFault ea n .atomic) }) ∧
  (s.admits ea n .atomic = true → Memory.readBytes s.mem ea.toNat n = none →
    o = .next { s with status := .faulted (.uninitialisedRead ea n) })

theorem atomicRmw_faults (s : State) (ea : Word) (n : Nat) (f : Word → Option Word)
    (k : State → Word → StepOutcome) : FaultsAsAtomic s ea n (atomicRmw s ea n f k) :=
  ⟨atomicRmw_refused k, atomicRmw_unwritten k⟩

section

variable {s : State} {dst src : Reg} {offset : BitVec 16} {base v expected : Word} {n : Nat}
  {op : Word → Word → Word} {part : Word → Word} {bs : List Byte}

theorem atomicModify_eq (hdst : s.regs.get dst = .value base) (hsrc : s.regs.get src = .value v) :
    atomicModify n op dst src offset s =
      atomicRmw s (effectiveAddress base offset) n (fun old => some (op old v)) fun t _ =>
        .next t.advance := by
  rw [atomicModify, readReg_value _ hdst, readReg_value _ hsrc]

theorem atomicFetch_eq (hdst : s.regs.get dst = .value base) (hsrc : s.regs.get src = .value v) :
    atomicFetch n op dst src offset s =
      atomicRmw s (effectiveAddress base offset) n (fun old => some (op old v)) fun t old =>
        .next (t.writeBack src old) := by
  rw [atomicFetch, readReg_value _ hdst, readReg_value _ hsrc]

theorem atomicCompareExchange_eq (hdst : s.regs.get dst = .value base)
    (hsrc : s.regs.get src = .value v) (hr0 : s.regs.get .r0 = .value expected) :
    atomicCompareExchange n part dst src offset s =
      atomicRmw s (effectiveAddress base offset) n
        (fun old => if old = part expected then some v else none) fun t old =>
          .next (t.writeBack .r0 old) := by
  rw [atomicCompareExchange, readReg_value _ hdst, readReg_value _ hsrc, readReg_value _ hr0]

theorem atomicModify_stores (hdst : s.regs.get dst = .value base) (hsrc : s.regs.get src = .value v)
    (ha : s.admits (effectiveAddress base offset) n .atomic = true)
    (hb : Memory.readBytes s.mem (effectiveAddress base offset).toNat n = some bs) :
    StoresAndAdvances s s.regs (effectiveAddress base offset) n (op (bytesToWord s.cfg.endian bs) v)
      (atomicModify n op dst src offset s) := by
  rw [atomicModify_eq hdst hsrc, atomicRmw_writes (f := fun old => some (op old v)) _ ha hb rfl]
  exact store_advance_storesAndAdvances s _ n _

theorem atomicFetch_stores (hdst : s.regs.get dst = .value base) (hsrc : s.regs.get src = .value v)
    (ha : s.admits (effectiveAddress base offset) n .atomic = true)
    (hb : Memory.readBytes s.mem (effectiveAddress base offset).toNat n = some bs) :
    StoresAndAdvances s (s.regs.set src (.value (bytesToWord s.cfg.endian bs)))
      (effectiveAddress base offset) n (op (bytesToWord s.cfg.endian bs) v)
      (atomicFetch n op dst src offset s) := by
  rw [atomicFetch_eq hdst hsrc, atomicRmw_writes (f := fun old => some (op old v)) _ ha hb rfl]
  exact store_writeBack_storesAndAdvances s _ n _ src _

theorem atomicCompareExchange_stores (part : Word → Word) (hdst : s.regs.get dst = .value base)
    (hsrc : s.regs.get src = .value v) (hr0 : s.regs.get .r0 = .value expected)
    (ha : s.admits (effectiveAddress base offset) n .atomic = true)
    (hb : Memory.readBytes s.mem (effectiveAddress base offset).toNat n = some bs)
    (hmatch : bytesToWord s.cfg.endian bs = part expected) :
    StoresAndAdvances s (s.regs.set .r0 (.value (bytesToWord s.cfg.endian bs)))
      (effectiveAddress base offset) n v (atomicCompareExchange n part dst src offset s) := by
  rw [atomicCompareExchange_eq hdst hsrc hr0, atomicRmw_writes _ ha hb (if_pos hmatch)]
  exact store_writeBack_storesAndAdvances s _ n _ .r0 _

theorem atomicCompareExchange_keeps (part : Word → Word) (hdst : s.regs.get dst = .value base)
    (hsrc : s.regs.get src = .value v) (hr0 : s.regs.get .r0 = .value expected)
    (ha : s.admits (effectiveAddress base offset) n .atomic = true)
    (hb : Memory.readBytes s.mem (effectiveAddress base offset).toNat n = some bs)
    (hdiffer : bytesToWord s.cfg.endian bs ≠ part expected) :
    atomicCompareExchange n part dst src offset s =
      .next (s.writeBack .r0 (bytesToWord s.cfg.endian bs)) := by
  rw [atomicCompareExchange_eq hdst hsrc hr0, atomicRmw_keeps _ ha hb (if_neg hdiffer)]

theorem atomicModify_faults (hdst : s.regs.get dst = .value base) (hsrc : s.regs.get src = .value v) :
    FaultsAsAtomic s (effectiveAddress base offset) n (atomicModify n op dst src offset s) := by
  rw [atomicModify_eq hdst hsrc]
  exact atomicRmw_faults s _ n _ _

theorem atomicFetch_faults (hdst : s.regs.get dst = .value base) (hsrc : s.regs.get src = .value v) :
    FaultsAsAtomic s (effectiveAddress base offset) n (atomicFetch n op dst src offset s) := by
  rw [atomicFetch_eq hdst hsrc]
  exact atomicRmw_faults s _ n _ _

theorem atomicCompareExchange_faults (hdst : s.regs.get dst = .value base)
    (hsrc : s.regs.get src = .value v) (hr0 : s.regs.get .r0 = .value expected) :
    FaultsAsAtomic s (effectiveAddress base offset) n
      (atomicCompareExchange n part dst src offset s) := by
  rw [atomicCompareExchange_eq hdst hsrc hr0]
  exact atomicRmw_faults s _ n _ _

/-- Exchange in 32 bits stores the low half of `src`, whose four bytes are the low four of `src`. -/
theorem atomicXchg32_stores (hdst : s.regs.get dst = .value base) (hsrc : s.regs.get src = .value v)
    (ha : s.admits (effectiveAddress base offset) 4 .atomic = true)
    (hb : Memory.readBytes s.mem (effectiveAddress base offset).toNat 4 = some bs) :
    StoresAndAdvances s (s.regs.set src (.value (bytesToWord s.cfg.endian bs)))
      (effectiveAddress base offset) 4 v (execAtomicXchg32 dst src offset s) := by
  have hlow : StoresAndAdvances s (s.regs.set src (.value (bytesToWord s.cfg.endian bs)))
      (effectiveAddress base offset) 4 (zext64 (low32 v)) (execAtomicXchg32 dst src offset s) :=
    atomicFetch_stores hdst hsrc ha hb
  rwa [StoresAndAdvances, wordToBytes_low32] at hlow

end

/-- Settles O49: the eight are `atomicModify` with their operator and size. -/
theorem plainAtomicResults : Obligations.PlainAtomicResults := by
  intro s dst src offset base v bs hdst hsrc
  refine ⟨fun ⟨ha, hb⟩ => ?_, fun ⟨ha, hb⟩ => ?_⟩
  · exact ⟨atomicModify_stores hdst hsrc ha hb, atomicModify_stores hdst hsrc ha hb,
      atomicModify_stores hdst hsrc ha hb, atomicModify_stores hdst hsrc ha hb⟩
  · exact ⟨atomicModify_stores hdst hsrc ha hb, atomicModify_stores hdst hsrc ha hb,
      atomicModify_stores hdst hsrc ha hb, atomicModify_stores hdst hsrc ha hb⟩

/-- Settles O50: the ten are `atomicFetch` with their operator and size. -/
theorem fetchingAtomicResults : Obligations.FetchingAtomicResults := by
  intro s dst src offset base v bs hdst hsrc
  refine ⟨fun ⟨ha, hb⟩ => ?_, fun ⟨ha, hb⟩ => ?_⟩
  · exact ⟨atomicFetch_stores hdst hsrc ha hb, atomicFetch_stores hdst hsrc ha hb,
      atomicFetch_stores hdst hsrc ha hb, atomicFetch_stores hdst hsrc ha hb,
      atomicXchg32_stores hdst hsrc ha hb⟩
  · exact ⟨atomicFetch_stores hdst hsrc ha hb, atomicFetch_stores hdst hsrc ha hb,
      atomicFetch_stores hdst hsrc ha hb, atomicFetch_stores hdst hsrc ha hb,
      atomicFetch_stores hdst hsrc ha hb⟩

/-- Settles O51: both are `atomicCompareExchange`, with the part of R0 that their width compares. -/
theorem compareExchangeResults : Obligations.CompareExchangeResults := by
  intro s dst src offset base v expected bs hdst hsrc hr0
  refine ⟨fun ⟨ha, hb⟩ => ?_, fun ⟨ha, hb⟩ => ?_⟩
  · exact ⟨atomicCompareExchange_stores (fun r => zext64 (low32 r)) hdst hsrc hr0 ha hb,
      atomicCompareExchange_keeps (fun r => zext64 (low32 r)) hdst hsrc hr0 ha hb⟩
  · exact ⟨atomicCompareExchange_stores (fun r => r) hdst hsrc hr0 ha hb,
      atomicCompareExchange_keeps (fun r => r) hdst hsrc hr0 ha hb⟩

/-- Settles O52: each of the three atomic forms hands its access to `atomicRmw` once its registers hold
values, and takes its faults. -/
theorem atomicFaults : Obligations.AtomicFaults := by
  intro s dst src offset base v hdst hsrc ea faults
  have modify (n : Nat) (op : Word → Word → Word) : faults n (atomicModify n op dst src offset s) :=
    atomicModify_faults hdst hsrc
  have fetch (n : Nat) (op : Word → Word → Word) : faults n (atomicFetch n op dst src offset s) :=
    atomicFetch_faults hdst hsrc
  exact ⟨State.admits_atomic_misaligned, State.admits_atomic_misaligned,
    modify 4 _, fetch 4 _, modify 4 _, fetch 4 _, modify 4 _, fetch 4 _, modify 4 _, fetch 4 _,
    fetch 4 _,
    modify 8 _, fetch 8 _, modify 8 _, fetch 8 _, modify 8 _, fetch 8 _, modify 8 _, fetch 8 _,
    fetch 8 _,
    fun _ hr0 =>
      ⟨atomicCompareExchange_faults hdst hsrc hr0, atomicCompareExchange_faults hdst hsrc hr0⟩⟩

end Sys2Proof.Machine
end

section
/-! PROOF. Encoding and decoding, the other way (`30_encoding.md` R80 to R104): the decoder reads an encoded
instruction back, refuses exactly the opcode bytes outside the opcode map, and the two layouts of a slot
are inverse. The idea of the first: the word of an instruction finds its row of the opcode map, its fields
hold what the row's columns of R101 ask for (`RegUse.Holds`, `SecondUse.Holds`), and then the operands
that the decoder reads are those that were written. -/

namespace Sys2Proof

open Sys2Proof.Machine

/-! ### Slots, fields and canonical words (R81 to R84) -/

/-- The two bytes of an `offset`, laid out and put together again. -/
theorem append_two_bytes (v : BitVec 16) : v.extractLsb' 8 8 ++ v.extractLsb' 0 8 = v :=
  BitVec.extractLsb'_append_extractLsb'

/-- The four bytes of an `imm`, laid out and put together again. -/
theorem append_four_bytes (v : Half) :
    v.extractLsb' 24 8 ++ v.extractLsb' 16 8 ++ v.extractLsb' 8 8 ++ v.extractLsb' 0 8 = v := by
  rw [BitVec.extractLsb'_append_extractLsb'_eq_extractLsb' (by rfl),
    BitVec.extractLsb'_append_extractLsb'_eq_extractLsb' (by rfl)]
  exact BitVec.extractLsb'_append_extractLsb'

/-- Cutting the bytes of packed fields gives the fields back (R81, R83). -/
theorem cut_pack (e : Endian) (f : Fields) : cut e (pack e f) = f := by
  cases e <;>
    simp only [cut, pack, append_two_bytes, append_four_bytes, BitVec.extractLsb'_append_eq_left,
      BitVec.extractLsb'_append_eq_right]

/-- Bits above the low part of a concatenation are bits of its high part. -/
theorem extractLsb'_append_above {v w start len : Nat} (hi : BitVec v) (lo : BitVec w) :
    (hi ++ lo).extractLsb' (w + start) len = hi.extractLsb' start len := by
  simp [BitVec.extractLsb'_append_eq_of_le]

/-- The canonical word holds each field above those that come before it (R84). -/
theorem Fields.ofWord_word (f : Fields) : Fields.ofWord f.word = f := by
  obtain ⟨op, dst, src, offset, imm⟩ := f
  have above_op {start len : Nat} :
      (imm ++ offset ++ src ++ dst ++ op).extractLsb' (8 + start) len =
        (imm ++ offset ++ src ++ dst).extractLsb' start len := extractLsb'_append_above _ op
  have above_dst {start len : Nat} :
      (imm ++ offset ++ src ++ dst ++ op).extractLsb' (8 + (4 + start)) len =
        (imm ++ offset ++ src).extractLsb' start len := above_op.trans (extractLsb'_append_above _ dst)
  have above_src {start len : Nat} :
      (imm ++ offset ++ src ++ dst ++ op).extractLsb' (8 + (4 + (4 + start))) len =
        (imm ++ offset).extractLsb' start len := above_dst.trans (extractLsb'_append_above _ src)
  simp only [Fields.ofWord, Fields.mk.injEq]
  exact ⟨BitVec.extractLsb'_append_eq_right, above_op.trans BitVec.extractLsb'_append_eq_right,
    above_dst.trans BitVec.extractLsb'_append_eq_right,
    above_src.trans BitVec.extractLsb'_append_eq_right,
    above_src.trans BitVec.extractLsb'_append_eq_left⟩

/-- In little-endian BPF the canonical word is the eight bytes in their order of significance (R84). -/
theorem word_cut_little (w : Slot) :
    (cut .little w).word = w.b7 ++ w.b6 ++ w.b5 ++ w.b4 ++ w.b3 ++ w.b2 ++ w.b1 ++ w.b0 := by
  have hregs : w.b1.extractLsb' 4 4 ++ w.b1.extractLsb' 0 4 = w.b1 :=
    BitVec.extractLsb'_append_extractLsb'
  calc (cut .little w).word
      = w.b7 ++ w.b6 ++ w.b5 ++ w.b4 ++ (w.b3 ++ w.b2) ++
          (w.b1.extractLsb' 4 4 ++ w.b1.extractLsb' 0 4) ++ w.b0 :=
        congrArg (· ++ w.b0) BitVec.append_assoc
    _ = w.b7 ++ w.b6 ++ w.b5 ++ w.b4 ++ (w.b3 ++ w.b2) ++ w.b1 ++ w.b0 := by rw [hregs]
    _ = w.b7 ++ w.b6 ++ w.b5 ++ w.b4 ++ w.b3 ++ w.b2 ++ w.b1 ++ w.b0 :=
        congrArg (fun v : BitVec 48 => v ++ w.b1 ++ w.b0) BitVec.append_assoc'

/-- Settles O6: each layout puts the bytes of a field where `cut` looks for them. -/
theorem cutAndPackAreInverse : Obligations.CutAndPackAreInverse :=
  ⟨cut_pack, pack_cut, Fields.ofWord_word, word_cut_little⟩

/-! ### Choosing the row (R100 steps 2 and 3) -/

theorem rowFor_of_find {field : LocalCallField} {f : Fields} {row : Row}
    (h : (rowsOf field f.opcode).find? (fun q => q.selector.selects f) = some row) :
    rowFor field f = .ok row := by
  unfold rowFor
  split
  · next hrows => simp [hrows] at h
  · next hrows => rw [← hrows, h]

theorem rowFor_reservedOpcode_iff {field : LocalCallField} {f : Fields} :
    rowFor field f = .error .reservedOpcode ↔ rowsOf field f.opcode = [] := by
  unfold rowFor
  split
  · next hrows => simp [hrows]
  · next hrows =>
    rw [hrows]
    split <;> simp

/-! ### What the fields of a well-formed word hold (R101) -/

theorem Reg.ofNum_num (r : Reg) : Reg.ofNum r.num = some r := by
  cases r <;> rfl

/-- The register field of a well-formed word: what it holds under its column of R101, and the register
that the decoder reads from it. -/
inductive RegUse.Holds : RegUse → BitVec 4 → Reg → Prop
  | zero : Holds .zero 0 .r0
  | read {r : Reg} : Holds .read r.num r
  | written {r : Reg} (h : r.mayBeWritten = true) : Holds .written r.num r
  | free {v : BitVec 4} : Holds .free v ((Reg.ofNum v).getD .r0)

/-- The second slot of a well-formed word: whether there is one, and the `next_imm` that the decoder reads. -/
inductive SecondUse.Holds : SecondUse → Option Half → Half → Prop
  | absent : Holds .absent none 0
  | free {n : Half} : Holds .free (some n) n
  | nonNegative {n : Half} (h : nextImmInRange n = true) : Holds .nonNegative (some n) n
  | zero : Holds .zero (some 0) 0

/-- A register field that holds what its column asks for passes the decoder's checks, and names the register
that was written into it. -/
theorem RegUse.Holds.checks {u : RegUse} {v : BitVec 4} {r : Reg} (h : u.Holds v r) :
    u.zeroOk v = true ∧ u.registerOk v = true ∧ u.writeOk v = true ∧ (Reg.ofNum v).getD .r0 = r := by
  cases h with
  | zero => decide
  | free => exact ⟨rfl, rfl, rfl, rfl⟩
  | read => simp [RegUse.zeroOk, RegUse.registerOk, RegUse.writeOk, Reg.ofNum_num]
  | written h =>
    revert h
    cases r <;> decide

theorem SecondUse.Holds.checks {use : SecondUse} {second : Option Half} {next : Half}
    (h : use.Holds second next) :
    use.zeroOk next = true ∧ (!(decide (use = .nonNegative)) || nextImmInRange next) = true := by
  cases h with
  | absent | zero => decide
  | free => exact ⟨rfl, rfl⟩
  | nonNegative h => exact ⟨rfl, h⟩

/-- The second slot that the encoder writes holds the `next_imm` that step 4 of R100 reads, whatever slots
follow (R87). -/
theorem secondImm_encoded {use : SecondUse} {second : Option Half} {next : Half}
    (h : use.Holds second next) (e : Endian) (rest : List Slot) :
    secondImm e use ((second.toList.map fun n => pack e (secondFields n)) ++ rest).head? =
      .ok next := by
  cases h with
  | absent => rfl
  | free | nonNegative | zero => simp [secondImm, cut_pack, secondFields]

/-- Fields that hold what the row asks for pass steps 5 and 6 of R100. -/
theorem operandsOf_holds {u : Usage} {f : Fields} {second : Option Half} {dst src : Reg} {next : Half}
    (hd : u.dst.Holds f.dst dst) (hs : u.src.Holds f.src src) (ho : u.offset.zeroOk f.offset = true)
    (hi : u.imm.zeroOk f.imm = true) (h2 : u.second.Holds second next) :
    operandsOf u f next = .ok ⟨dst, src, f.dst, f.src, f.offset, f.imm, next⟩ := by
  obtain ⟨hdZero, hdReg, hdWrite, rfl⟩ := hd.checks
  obtain ⟨hsZero, hsReg, hsWrite, rfl⟩ := hs.checks
  obtain ⟨h2Zero, h2Range⟩ := h2.checks
  simp only [operandsOf, Usage.unusedZero, Usage.nextInRange, hdZero, hdReg, hdWrite, hsZero, hsReg,
    hsWrite, ho, hi, h2Zero, h2Range, Bool.and_self, Bool.not_true, Bool.false_eq_true, if_false]

/-! ### Decoding what the encoder writes -/

/-- The decoder gives the instruction back, in either byte order and whatever slots follow. -/
def Instr.DecodesBack (field : LocalCallField) (i : Instr) : Prop :=
  ∀ (e : Endian) (rest : List Slot), decodeSlots e field (encode e i ++ rest) = .ok i

/-- An instruction decodes back when its word finds a row, its fields hold what that row asks for, and the
row builds the instruction from the operands they hold. -/
theorem Instr.DecodesBack.of_row {field : LocalCallField} {i : Instr} {op : BitVec 8} {d s : BitVec 4}
    {offset : BitVec 16} {imm : Half} {second : Option Half} {row : Row} {dst src : Reg} {next : Half}
    (hparts : i.parts = (⟨op, d, s, offset, imm⟩, second))
    (hrow : (rowsOf field op).find? (fun q => q.selector.selects ⟨op, d, s, offset, imm⟩) = some row)
    (hd : row.usage.dst.Holds d dst) (hs : row.usage.src.Holds s src)
    (ho : row.usage.offset.zeroOk offset = true) (hi : row.usage.imm.zeroOk imm = true)
    (h2 : row.usage.second.Holds second next)
    (hbuild : row.build ⟨dst, src, d, s, offset, imm, next⟩ = i) : i.DecodesBack field := by
  intro e rest
  have hfound : rowFor field ⟨op, d, s, offset, imm⟩ = .ok row := rowFor_of_find hrow
  have hoperands : operandsOf row.usage ⟨op, d, s, offset, imm⟩ next =
      .ok ⟨dst, src, d, s, offset, imm, next⟩ := operandsOf_holds hd hs ho hi h2
  simp only [encode, hparts, List.cons_append, decodeSlots, decode, cut_pack, hfound,
    secondImm_encoded h2, hoperands, hbuild]

/-- The BPF-local call, whose unused `offset` is zero where the displacement is in `imm` (R249). -/
theorem callLocal_decodesBack {field : LocalCallField} {offset : BitVec 16} {imm : Half}
    (h : localCallOffsetOk field offset = true) : (Instr.callLocal offset imm).DecodesBack field := by
  cases field with
  | offset => exact .of_row rfl rfl .zero .free rfl rfl .absent rfl
  | imm =>
    obtain rfl : offset = 0 := eq_of_beq h
    exact .of_row rfl rfl .zero .free rfl rfl .absent rfl

/-- Settles O1: every instruction finds its row, line by line of the table of R101. -/
theorem decodeInvertsEncode : Obligations.DecodeInvertsEncode := by
  intro e field i rest hwf
  suffices h : i.DecodesBack field from h e rest
  cases i with
  | add32K | sub32K | mul32K | div32K | or32K | and32K | lsh32K | rsh32K | mod32K | xor32K | mov32K
  | arsh32K | add64K | sub64K | mul64K | div64K | or64K | and64K | lsh64K | rsh64K | mod64K | xor64K
  | mov64K | arsh64K | neg32 | neg64 | le16 | le32 | le64 | be16 | be32 | be64 =>
    exact .of_row rfl rfl (.written hwf) .zero rfl rfl .absent rfl
  | add32X | sub32X | mul32X | div32X | or32X | and32X | lsh32X | rsh32X | mod32X | xor32X | mov32X
  | arsh32X | add64X | sub64X | mul64X | div64X | or64X | and64X | lsh64X | rsh64X | mod64X | xor64X
  | mov64X | arsh64X | ldxw | ldxh | ldxb | ldxdw =>
    exact .of_row rfl rfl (.written hwf) .read rfl rfl .absent rfl
  | ja | exit => exact .of_row rfl rfl .zero .zero rfl rfl .absent rfl
  | jeqK | jgtK | jgeK | jsetK | jneK | jsgtK | jsgeK | jltK | jleK | jsltK | jsleK | jeq32K | jgt32K
  | jge32K | jset32K | jne32K | jsgt32K | jsge32K | jlt32K | jle32K | jslt32K | jsle32K | stw | sth
  | stb | stdw =>
    exact .of_row rfl rfl .read .zero rfl rfl .absent rfl
  | jeqX | jgtX | jgeX | jsetX | jneX | jsgtX | jsgeX | jltX | jleX | jsltX | jsleX | jeq32X | jgt32X
  | jge32X | jset32X | jne32X | jsgt32X | jsge32X | jlt32X | jle32X | jslt32X | jsle32X | stxw | stxh
  | stxb | stxdw | atomicAdd32 | atomicOr32 | atomicAnd32 | atomicXor32 | atomicCmpxchg32
  | atomicAdd64 | atomicOr64 | atomicAnd64 | atomicXor64 | atomicCmpxchg64 =>
    exact .of_row rfl rfl .read .read rfl rfl .absent rfl
  | atomicFetchAdd32 | atomicFetchOr32 | atomicFetchAnd32 | atomicFetchXor32 | atomicXchg32
  | atomicFetchAdd64 | atomicFetchOr64 | atomicFetchAnd64 | atomicFetchXor64 | atomicXchg64 =>
    exact .of_row rfl rfl .read (.written hwf) rfl rfl .absent rfl
  | callHelper | callHelperSpecific => exact .of_row rfl rfl .zero .free rfl rfl .absent rfl
  | callLocal => exact callLocal_decodesBack hwf
  | lddw => exact .of_row rfl rfl (.written hwf) .free rfl rfl .free rfl
  | ldMapFd | ldVarAddr | ldCodeAddr | ldMapIdx =>
    exact .of_row rfl rfl (.written hwf) .free rfl rfl .zero rfl
  | ldMapValueFd | ldMapValueIdx =>
    obtain ⟨hdst, hnext⟩ := Bool.and_eq_true_iff.1 hwf
    exact .of_row rfl rfl (.written hdst) .free rfl rfl (.nonNegative hnext) rfl
  | ldAbsW | ldAbsH | ldAbsB | ldAbsDw | ldIndW | ldIndH | ldIndB | ldIndDw =>
    exact .of_row rfl rfl .free .free rfl rfl .absent rfl

/-! ### Words written out in the spec -/

/-- The slots that `encode` writes for a one-slot instruction decode back, whatever slot follows. -/
theorem decode_of_encode {e : Endian} {field : LocalCallField} {i : Instr} {w0 : Slot}
    (next : Option Slot) (hw : encode e i = [w0]) (hwf : i.wellFormed field = true) :
    decode e field w0 next = .ok i := by
  have h := decodeInvertsEncode e field i next.toList hwf
  rwa [hw, List.singleton_append, decodeSlots, Option.head?_toList] at h

/-- Settles O4: both slots are the encoding of the instruction. -/
theorem workedEncodingExample : Obligations.WorkedEncodingExample :=
  ⟨rfl, rfl, rfl, rfl, fun _ next => ⟨decode_of_encode next rfl rfl, decode_of_encode next rfl rfl⟩⟩

/-- Settles O5: each word is the encoding of its instruction. -/
theorem specWordsDecode : Obligations.SpecWordsDecode :=
  ⟨decode_of_encode none rfl rfl, decode_of_encode none rfl rfl, decode_of_encode none rfl rfl,
    decode_of_encode none rfl rfl, decode_of_encode none rfl rfl, decode_of_encode none rfl rfl,
    decode_of_encode none rfl rfl,
    decodeInvertsEncode .little .offset (.lddw .r1 0x55667788 0x11223344) [] rfl⟩

/-! ### Reserved opcode bytes (R102, R103) -/

/-- The opcode map has rows for the opcode bytes of R102 only. -/
theorem opcode_mem_definedOpcodes (field : LocalCallField) (k : BitVec 3) :
    ∀ row ∈ rowsOfClass field k, row.opcode.toNat ∈ definedOpcodes := by
  revert k
  cases field <;> decide

/-- The opcode map has a row for every opcode byte of R102, in the class that the byte names. -/
theorem rowsOf_definedOpcode (field : LocalCallField) :
    ∀ n ∈ definedOpcodes, rowsOf field (BitVec.ofNat 8 n) ≠ [] := by
  simp only [ne_eq, ← List.isEmpty_iff]
  cases field <;> decide +kernel

theorem rowsOf_eq_nil_iff {field : LocalCallField} {op : BitVec 8} :
    rowsOf field op = [] ↔ op.toNat ∉ definedOpcodes := by
  constructor
  · intro hnil hop
    apply rowsOf_definedOpcode field op.toNat hop
    rwa [BitVec.ofNat_toNat, BitVec.setWidth_eq]
  · intro hop
    refine List.filter_eq_nil_iff.2 fun row hrow heq => hop ?_
    rw [← eq_of_beq heq]
    exact opcode_mem_definedOpcodes field _ row hrow

theorem secondImm_ne_reservedOpcode (e : Endian) (use : SecondUse) (w1 : Option Slot) :
    secondImm e use w1 ≠ .error .reservedOpcode := by
  unfold secondImm
  repeat' split
  all_goals simp

theorem operandsOf_ne_reservedOpcode (u : Usage) (f : Fields) (next : Half) :
    operandsOf u f next ≠ .error .reservedOpcode := by
  unfold operandsOf
  repeat' split
  all_goals simp

/-- Only step 2 of R100 answers `ReservedOpcode`. -/
theorem decode_reservedOpcode_iff {e : Endian} {field : LocalCallField} {w0 : Slot} {w1 : Option Slot} :
    decode e field w0 w1 = .error .reservedOpcode ↔ rowsOf field (cut e w0).opcode = [] := by
  rw [← rowFor_reservedOpcode_iff]
  constructor
  · intro h
    unfold decode at h
    split at h
    · next hrow =>
      cases h
      exact hrow
    · split at h
      · next hnext =>
        cases h
        exact absurd hnext (secondImm_ne_reservedOpcode e _ w1)
      · split at h
        · next ho =>
          cases h
          exact absurd ho (operandsOf_ne_reservedOpcode _ _ _)
        · cases h
  · intro h
    rw [decode, h]

/-- Settles O3: a slot is refused as reserved exactly when the opcode map has no row for its opcode byte. -/
theorem reservedOpcodesAreRefused : Obligations.ReservedOpcodesAreRefused := by
  refine ⟨rfl, by decide, fun e field w0 w1 => ?_⟩
  have hreserved : decode e field w0 w1 = .error .reservedOpcode ↔
      (cut e w0).opcode.toNat ∉ definedOpcodes := decode_reservedOpcode_iff.trans rowsOf_eq_nil_iff
  exact ⟨hreserved.2, fun hop h => hreserved.1 h hop⟩

end Sys2Proof
end

section
/-! PROOF. Loading a program (`70_reset_and_hazards.md` R370, R371) and the 64-bit constant of LDDW
(`48_lddw.md` R311). -/

namespace Sys2Proof.Machine

open Sys2Proof

/-! ### Cutting a byte string into slots (R80) -/

/-- The bytes of a slot, lowest address first. -/
def slotBytes (w : Slot) : List Byte := [w.b0, w.b1, w.b2, w.b3, w.b4, w.b5, w.b6, w.b7]

theorem length_flatMap_slotBytes (ws : List Slot) : (ws.flatMap slotBytes).length = 8 * ws.length := by
  simp [List.length_flatMap, slotBytes, Nat.mul_comm]

/-- The slots hold the bytes in order: slot `k` has bytes `8 k` to `8 k + 7`. -/
theorem flatMap_slotBytes_of_slotsOfBytes {bytes : List Byte} {ws : List Slot}
    (h : slotsOfBytes bytes = some ws) : ws.flatMap slotBytes = bytes := by
  fun_induction slotsOfBytes bytes generalizing ws with
  | case1 => cases h; rfl
  | case2 b0 b1 b2 b3 b4 b5 b6 b7 rest ws' hrest ih =>
    cases h
    rw [List.flatMap_cons, ih hrest]
    rfl
  | case3 => cases h
  | case4 => cases h

/-- A byte string that is not cut into slots is no whole number of them. -/
theorem length_of_slotsOfBytes_none {bytes : List Byte} (h : slotsOfBytes bytes = none) :
    bytes.length % 8 ≠ 0 := by
  fun_induction slotsOfBytes bytes with
  | case1 => cases h
  | case2 => cases h
  | case3 b0 b1 b2 b3 b4 b5 b6 b7 rest hrest ih =>
    simpa [Nat.add_assoc] using ih hrest
  | case4 bytes hnil hcons =>
    match bytes with
    | [] => exact absurd rfl hnil
    | [_] | [_, _] | [_, _, _] | [_, _, _, _] | [_, _, _, _, _] | [_, _, _, _, _, _]
    | [_, _, _, _, _, _, _] => simp
    | b0 :: b1 :: b2 :: b3 :: b4 :: b5 :: b6 :: b7 :: rest =>
      exact absurd rfl (hcons b0 b1 b2 b3 b4 b5 b6 b7 rest)

theorem length_of_slotsOfBytes {bytes : List Byte} {ws : List Slot} (h : slotsOfBytes bytes = some ws) :
    bytes.length = 8 * ws.length := by
  rw [← length_flatMap_slotBytes, flatMap_slotBytes_of_slotsOfBytes h]

/-! ### Loading (R341, R371) -/

theorem withinLimit_iff {limit : Option Nat} {n : Nat} :
    withinLimit limit n = true ↔ ∀ m, limit = some m → n ≤ m := by
  cases limit <;> simp [withinLimit]

/-- Settles O60: a byte string that is cut into slots is eight bytes to a slot, so its length is a multiple
of 8 and an eighth of it is what `cfg.MAX_INSNS` is compared with. -/
theorem loadingRefusals : Obligations.LoadingRefusals := by
  intro c bytes mem
  cases hws : slotsOfBytes bytes with
  | none =>
    have hlen := length_of_slotsOfBytes_none hws
    exact ⟨fun _ => by rw [loadProgram, hws], fun h => absurd h hlen⟩
  | some ws =>
    have hlen := length_of_slotsOfBytes hws
    have hcount : bytes.length / 8 = ws.length := by omega
    have hload : loadProgram c bytes mem =
        if withinLimit c.maxInsns ws.length then .ok (State.entry c ws mem) else .error .tooManySlots := by
      rw [loadProgram, hws]
    rw [hload, hcount]
    refine ⟨fun h => absurd (by omega) h, fun _ => ⟨fun m hm hlt => ?_, fun hle => ?_⟩⟩
    · exact if_neg fun h => Nat.not_le.2 hlt (withinLimit_iff.1 h m hm)
    · exact ⟨ws, if_pos (withinLimit_iff.2 hle), flatMap_slotBytes_of_slotsOfBytes hws⟩

/-! ### The 64-bit constant (R88, R311) -/

/-- `next_imm` is the high half of the constant (R88). -/
theorem wideConstant_eq (imm nextImm : Half) :
    nextImm ++ imm = BitVec.ofNat 64 (nextImm.toNat * 2 ^ 32 + imm.toNat) := by
  have himm := imm.isLt
  have hnext := nextImm.isLt
  apply BitVec.eq_of_toNat_eq
  rw [BitVec.toNat_append, ← Nat.shiftLeft_add_eq_or_of_lt himm, Nat.shiftLeft_eq, BitVec.toNat_ofNat]
  omega

theorem exec_lddw (dst : Reg) (imm nextImm : Half) (s : State) :
    exec (.lddw dst imm nextImm) s = .next (s.writeBackWide dst (nextImm ++ imm)) := rfl

/-- Settles O53: the constant is written back, with `pc` moved by the two slots. -/
theorem loadConstantResult : Obligations.LoadConstantResult := by
  intro s dst imm nextImm
  rw [exec_lddw, wideConstant_eq]
  rfl

end Sys2Proof.Machine
end

section
/-! PROOF. The results of the arithmetic instructions (`40_alu32.md` R120 to R146, `41_alu64.md` R150 to
R175). The idea: each operand form has one lemma for what it does on operands that hold values, whatever
its operator; the operators' values at every width are lemmas of their own. -/

namespace Sys2Proof.Machine

open Sys2Proof

/-! ### Values of the operators, at every width -/

section

variable {n : Nat} (a b : BitVec n)

theorem divOrZero_eq : divOrZero a b = if b = 0 then 0 else BitVec.ofNat n (a.toNat / b.toNat) := by
  unfold divOrZero
  split
  · rfl
  · exact BitVec.eq_of_toNat_eq (by simp [Nat.mod_eq_of_lt ((Nat.div_le_self _ _).trans_lt a.isLt)])

theorem modOrKeep_eq : modOrKeep a b = if b = 0 then a else BitVec.ofNat n (a.toNat % b.toNat) := by
  unfold modOrKeep
  split
  · rfl
  · exact BitVec.eq_of_toNat_eq (by simp [Nat.mod_eq_of_lt ((Nat.mod_le _ _).trans_lt a.isLt)])

theorem neg_eq_ofInt : -a = BitVec.ofInt n (-a.toInt) := by
  rw [BitVec.ofInt_neg, BitVec.ofInt_toInt]

theorem shiftLeft_eq_ofNat (c : Nat) : a <<< c = BitVec.ofNat n (a.toNat * 2 ^ c) :=
  BitVec.eq_of_toNat_eq (by simp [Nat.shiftLeft_eq])

theorem ushiftRight_eq_ofNat (c : Nat) : a >>> c = BitVec.ofNat n (a.toNat / 2 ^ c) :=
  BitVec.eq_of_toNat_eq (by
    simp [Nat.shiftRight_eq_div_pow, Nat.mod_eq_of_lt ((Nat.div_le_self _ _).trans_lt a.isLt)])

theorem sshiftRight_eq_ofInt (c : Nat) : a.sshiftRight c = BitVec.ofInt n (a.toInt / 2 ^ c) := by
  rw [BitVec.sshiftRight, Int.shiftRight_eq_div_pow]
  norm_cast

end

/-! ### Shift counts (R146) -/

section

variable {n : Nat} {s : State} {b : BitVec n} (k : Nat → StepOutcome)

theorem shiftCount_fault (hb : n ≤ b.toNat) (hc : s.cfg.shiftOversize = .fault) :
    shiftCount s b k = raise s (.shiftOversize b.toNat) := by
  rw [shiftCount, if_neg (Nat.not_lt.2 hb), hc]

theorem shiftCount_mask (hb : n ≤ b.toNat) (hc : s.cfg.shiftOversize = .mask) :
    shiftCount s b k = k (b &&& BitVec.ofNat n (n - 1)).toNat := by
  rw [shiftCount, if_neg (Nat.not_lt.2 hb), hc]

/-- At a width that is a power of two, masking the count is taking it modulo the width. -/
theorem toNat_and_width_sub_one {w : Nat} (hn : n = 2 ^ w) :
    (b &&& BitVec.ofNat n (n - 1)).toNat = b.toNat % n := by
  subst hn
  have hlt : 2 ^ w - 1 < 2 ^ 2 ^ w := (Nat.sub_le _ 1).trans_lt Nat.lt_two_pow_self
  rw [BitVec.toNat_and, BitVec.toNat_ofNat, Nat.mod_eq_of_lt hlt, Nat.and_two_pow_sub_one_eq_mod]

/-- A count that raises no fault is used modulo the width. -/
theorem shiftCount_mod {w : Nat} (hn : n = 2 ^ w) (hb : b.toNat < n ∨ s.cfg.shiftOversize = .mask) :
    shiftCount s b k = k (b.toNat % n) := by
  rcases Nat.lt_or_ge b.toNat n with hlt | hge
  · rw [shiftCount_inRange _ _ _ hlt, Nat.mod_eq_of_lt hlt]
  · rw [shiftCount_mask k hge (hb.resolve_left (Nat.not_lt.2 hge)), toNat_and_width_sub_one hn]

end

/-- Settles O28: the three cases of the count, at the two widths. -/
theorem shiftCountRule : Obligations.ShiftCountRule := fun s k =>
  ⟨fun b => ⟨shiftCount_inRange s b k, shiftCount_fault k, shiftCount_mask k⟩,
    fun b => ⟨shiftCount_inRange s b k, shiftCount_fault k, shiftCount_mask k⟩⟩

/-! ### The operand forms on operands that hold values -/

section

variable {s : State} {dst src : Reg} {a b : Word} (imm : Half)

theorem arith32K_value (op : Half → Half → Half) (ha : s.regs.get dst = .value a) :
    arith32K op dst imm s = .next (s.writeBack dst (zext64 (op (low32 a) imm))) :=
  readReg_value _ ha

theorem arith32X_value (op : Half → Half → Half) (ha : s.regs.get dst = .value a)
    (hb : s.regs.get src = .value b) :
    arith32X op dst src s = .next (s.writeBack dst (zext64 (op (low32 a) (low32 b)))) :=
  (readReg_value _ ha).trans (readReg_value _ hb)

theorem unary32_value (op : Half → Half) (ha : s.regs.get dst = .value a) :
    unary32 op dst s = .next (s.writeBack dst (zext64 (op (low32 a)))) :=
  readReg_value _ ha

theorem unary64_value (op : Word → Word) (ha : s.regs.get dst = .value a) :
    unary64 op dst s = .next (s.writeBack dst (op a)) :=
  readReg_value _ ha

theorem shift32K_eq (op : Half → Nat → Half) (ha : s.regs.get dst = .value a) :
    shift32K op dst imm s =
      shiftCount s imm fun n => .next (s.writeBack dst (zext64 (op (low32 a) n))) :=
  readReg_value _ ha

theorem shift32X_eq (op : Half → Nat → Half) (ha : s.regs.get dst = .value a)
    (hb : s.regs.get src = .value b) :
    shift32X op dst src s =
      shiftCount s (low32 b) fun n => .next (s.writeBack dst (zext64 (op (low32 a) n))) :=
  (readReg_value _ ha).trans (readReg_value _ hb)

theorem shift64K_eq (op : Word → Nat → Word) (ha : s.regs.get dst = .value a) :
    shift64K op dst imm s =
      shiftCount s (sext64 imm) fun n => .next (s.writeBack dst (op a n)) :=
  readReg_value _ ha

theorem shift64X_eq (op : Word → Nat → Word) (ha : s.regs.get dst = .value a)
    (hb : s.regs.get src = .value b) :
    shift64X op dst src s = shiftCount s b fun n => .next (s.writeBack dst (op a n)) :=
  (readReg_value _ ha).trans (readReg_value _ hb)

end

/-! ### The results (R120, R150) -/

section

variable {n : Nat} {a b : BitVec n} (out : BitVec n → StepOutcome)

/-- What an operand form gives for the eight two-operand operators, when it hands the operator's value on
to `out`. -/
theorem arithmetic_results (run : (BitVec n → BitVec n → BitVec n) → StepOutcome)
    (hrun : ∀ op, run op = out (op a b)) :
    run (fun a b => a + b) = out (a + b) ∧
    run (fun a b => a - b) = out (a - b) ∧
    run (fun a b => a * b) = out (a * b) ∧
    run divOrZero = out (if b = 0 then 0 else BitVec.ofNat n (a.toNat / b.toNat)) ∧
    run (fun a b => a ||| b) = out (a ||| b) ∧
    run (fun a b => a &&& b) = out (a &&& b) ∧
    run (fun a b => a ^^^ b) = out (a ^^^ b) ∧
    run modOrKeep = out (if b = 0 then a else BitVec.ofNat n (a.toNat % b.toNat)) :=
  ⟨hrun _, hrun _, hrun _, (hrun _).trans (congrArg out (divOrZero_eq a b)), hrun _, hrun _, hrun _,
    (hrun _).trans (congrArg out (modOrKeep_eq a b))⟩

/-- What an operand form gives for the three shifts, when it hands the operator's value at the count of
`b` on to `out` (R146): the shift by the count modulo the width, or the fault of the count. -/
theorem shift_results {s : State} {w : Nat} (hn : n = 2 ^ w)
    (run : (BitVec n → Nat → BitVec n) → StepOutcome)
    (hrun : ∀ op, run op = shiftCount s b fun c => out (op a c)) :
    (b.toNat < n ∨ s.cfg.shiftOversize = .mask →
      run (fun a c => a <<< c) = out (BitVec.ofNat n (a.toNat * 2 ^ (b.toNat % n))) ∧
      run (fun a c => a >>> c) = out (BitVec.ofNat n (a.toNat / 2 ^ (b.toNat % n))) ∧
      run (fun a c => a.sshiftRight c) = out (BitVec.ofInt n (a.toInt / 2 ^ (b.toNat % n)))) ∧
    (n ≤ b.toNat → s.cfg.shiftOversize = .fault →
      run (fun a c => a <<< c) = raise s (.shiftOversize b.toNat) ∧
      run (fun a c => a >>> c) = raise s (.shiftOversize b.toNat) ∧
      run (fun a c => a.sshiftRight c) = raise s (.shiftOversize b.toNat)) := by
  refine ⟨fun hb => ?_, fun hb hc => ?_⟩
  · have hval (op : BitVec n → Nat → BitVec n) : run op = out (op a (b.toNat % n)) :=
      (hrun op).trans (shiftCount_mod _ hn hb)
    exact ⟨(hval _).trans (congrArg out (shiftLeft_eq_ofNat a _)),
      (hval _).trans (congrArg out (ushiftRight_eq_ofNat a _)),
      (hval _).trans (congrArg out (sshiftRight_eq_ofInt a _))⟩
  · have hbad (op : BitVec n → Nat → BitVec n) : run op = raise s (.shiftOversize b.toNat) :=
      (hrun op).trans (shiftCount_fault _ hb hc)
    exact ⟨hbad _, hbad _, hbad _⟩

end

/-- Settles O24: the sixteen are the two 32-bit forms with their operators. -/
theorem arithmetic32Results : Obligations.Arithmetic32Results := by
  intro s dst a64 ha a out
  refine ⟨fun b => ?_, fun src b64 hb => ?_⟩
  · exact arithmetic_results out (arith32K · dst b s) fun op => arith32K_value b op ha
  · exact arithmetic_results out (arith32X · dst src s) fun op => arith32X_value op ha hb

/-- Settles O25: NEG is the one-operand form, and MOV writes its operand back. -/
theorem negateAndMoveResults : Obligations.NegateAndMoveResults := by
  intro s dst out
  refine ⟨fun a ha => ⟨?_, ?_⟩, fun imm => ⟨rfl, congrArg out (BitVec.ofNat_toNat 64 imm).symm⟩,
    fun src b hb => ⟨readReg_value _ hb, ?_⟩⟩
  · exact (unary64_value _ ha).trans (congrArg out (neg_eq_ofInt a))
  · exact (unary32_value _ ha).trans
      (congrArg (fun v : Half => out (v.setWidth 64)) (neg_eq_ofInt (low32 a)))
  · have hlow : zext64 (low32 b) = BitVec.ofNat 64 (b.toNat % 2 ^ 32) :=
      BitVec.eq_of_toNat_eq (by simp)
    exact (readReg_value _ hb).trans (congrArg out hlow)

/-- Settles O26: the six are the two 64-bit forms with their operators. -/
theorem shift64Results : Obligations.Shift64Results := by
  intro s dst a ha out
  refine ⟨fun imm => ?_, fun src b hb => ?_⟩
  · exact shift_results out (w := 6) rfl (shift64K · dst imm s) fun op => shift64K_eq imm op ha
  · exact shift_results out (w := 6) rfl (shift64X · dst src s) fun op => shift64X_eq op ha hb

/-- Settles O27: the six are the two 32-bit forms with their operators. -/
theorem shift32Results : Obligations.Shift32Results := by
  intro s dst a64 ha a out
  refine ⟨fun b => ?_, fun src b64 hb => ?_⟩
  · exact shift_results out (w := 5) rfl (shift32K · dst b s) fun op => shift32K_eq b op ha
  · exact shift_results out (w := 5) rfl (shift32X · dst src s) fun op => shift32X_eq op ha hb

end Sys2Proof.Machine
end

section
/-! PROOF. What a step depends on (`40_alu32.md` R120, `41_alu64.md` R150, `42_byteswap.md` R180;
`70_reset_and_hazards.md` R375): arithmetic on its operands and the configuration, and every instruction
but a helper call on the machine, the program and the configuration. Both are shown operation by
operation: what holds of the continuations of a shared operation holds of the operation. -/

namespace Sys2Proof.Machine

open Sys2Proof

/-! ### Two runs of an arithmetic instruction -/

/-- When neither outcome is a fault, both leave the same cell in `d`. -/
def SameWrite (d : Reg) (o1 o2 : StepOutcome) : Prop :=
  ∀ t1 t2 : State, o1 = .next t1 → o2 = .next t2 → t1.status = .running → t2.status = .running →
    d ≠ .r10 → t1.regs.get d = t2.regs.get d

section

variable {d : Reg} {s1 s2 : State}

theorem sameWrite_raise (f : FaultInfo) (o : StepOutcome) : SameWrite d (raise s1 f) o := by
  intro t1 t2 h1 _ hrun _ _
  cases raise_next.1 h1
  cases hrun

theorem sameWrite_writeBack {v1 v2 : Word} (h : v1 = v2) :
    SameWrite d (.next (s1.writeBack d v1)) (.next (s2.writeBack d v2)) := by
  rintro t1 t2 ⟨⟩ ⟨⟩ _ _ hd
  simp only [State.writeBack_regs, RegFile.get_set_same _ _ _ hd, h]

theorem sameWrite_readReg {r : Reg} {k1 k2 : Word → StepOutcome}
    (hr : s1.regs.get r = s2.regs.get r) (hk : ∀ v, SameWrite d (k1 v) (k2 v)) :
    SameWrite d (readReg s1 r k1) (readReg s2 r k2) := by
  cases hv : s2.regs.get r with
  | value v =>
    rw [readReg_value k1 (hr.trans hv), readReg_value k2 hv]
    exact hk v
  | unwritten =>
    rw [readReg_unwritten k1 (hr.trans hv)]
    exact sameWrite_raise _ _

theorem sameWrite_shiftCount {n : Nat} {b : BitVec n} {k1 k2 : Nat → StepOutcome}
    (hcfg : s1.cfg = s2.cfg) (hk : ∀ c, SameWrite d (k1 c) (k2 c)) :
    SameWrite d (shiftCount s1 b k1) (shiftCount s2 b k2) := by
  unfold shiftCount
  rw [hcfg]
  split
  · exact hk _
  · split
    · exact sameWrite_raise _ _
    · exact hk _

end

/-- Two runs of an arithmetic instruction, on equal operands and one configuration, write the same value. -/
theorem exec_sameWrite {i : Instr} {s1 s2 : State} {d : Reg} (hf : familyOf i = .arithmetic)
    (hcfg : s1.cfg = s2.cfg) (hreads : ∀ r ∈ readsOf i, s1.regs.get r = s2.regs.get r)
    (hd : d ∈ writesOf i) : SameWrite d (exec i s1) (exec i s2) := by
  cases i with
  | add32K | sub32K | mul32K | div32K | or32K | and32K | mod32K | xor32K | neg32
  | add64K | sub64K | mul64K | div64K | or64K | and64K | mod64K | xor64K | neg64
  | mov32X | mov64X =>
    cases List.mem_singleton.1 hd
    exact sameWrite_readReg (hreads _ (.head _)) fun _ => sameWrite_writeBack rfl
  | add32X | sub32X | mul32X | div32X | or32X | and32X | mod32X | xor32X
  | add64X | sub64X | mul64X | div64X | or64X | and64X | mod64X | xor64X =>
    cases List.mem_singleton.1 hd
    exact sameWrite_readReg (hreads _ (.head _)) fun _ =>
      sameWrite_readReg (hreads _ (.tail _ (.head _))) fun _ => sameWrite_writeBack rfl
  | lsh32K | rsh32K | arsh32K | lsh64K | rsh64K | arsh64K =>
    cases List.mem_singleton.1 hd
    exact sameWrite_readReg (hreads _ (.head _)) fun _ =>
      sameWrite_shiftCount hcfg fun _ => sameWrite_writeBack rfl
  | lsh32X | rsh32X | arsh32X | lsh64X | rsh64X | arsh64X =>
    cases List.mem_singleton.1 hd
    exact sameWrite_readReg (hreads _ (.head _)) fun _ =>
      sameWrite_readReg (hreads _ (.tail _ (.head _))) fun _ =>
        sameWrite_shiftCount hcfg fun _ => sameWrite_writeBack rfl
  | mov32K | mov64K =>
    cases List.mem_singleton.1 hd
    exact sameWrite_writeBack rfl
  | le16 | le32 | le64 | be16 | be32 | be64 =>
    cases List.mem_singleton.1 hd
    exact sameWrite_readReg (hreads _ (.head _)) fun _ => sameWrite_writeBack (by rw [hcfg])
  | _ => cases hf

/-! ### The model's own fields (logs 7 and 9) -/

/-- `s` with the choices, the other agents' writes and the turns of `e`. -/
def State.inEnv (s e : State) : State :=
  { s with choices := e.choices, agentWrites := e.agentWrites, turns := e.turns }

/-- An outcome with the choices, the other agents' writes and the turns of `e` in its next state. -/
def outcomeInEnv (e : State) : StepOutcome → StepOutcome
  | .next t => .next (t.inEnv e)
  | o => o

/-- The meaning does the same whatever the model's own fields hold, and leaves them as they are. -/
def EnvBlind (run : State → StepOutcome) : Prop :=
  ∀ s e : State, run (s.inEnv e) = outcomeInEnv e (run s)

/-- An update of the state that does not see the model's own fields and leaves them as they are. -/
def EnvBlindUpdate (f : State → State) : Prop := ∀ s e : State, f (s.inEnv e) = (f s).inEnv e

/-- A blind meaning leaves the fields as they are: it does the same at `s` as at `s` in its own
environment. -/
theorem EnvBlind.keeps {run : State → StepOutcome} (h : EnvBlind run) {s t : State}
    (ht : run s = .next t) :
    t.choices = s.choices ∧ t.agentWrites = s.agentWrites ∧ t.turns = s.turns := by
  have hself : run s = outcomeInEnv s (run s) := h s s
  rw [ht] at hself
  have hkept : t = t.inEnv s := Host.Outcome.next.inj hself
  rw [hkept]
  exact ⟨rfl, rfl, rfl⟩

/-! #### The shared operations keep blindness -/

theorem envBlind_next {f : State → State} (hf : EnvBlindUpdate f) : EnvBlind fun s => .next (f s) :=
  fun s e => congrArg Host.Outcome.next (hf s e)

theorem envBlind_raise (f : FaultInfo) : EnvBlind fun s => raise s f := fun _ _ => rfl

/-- Where a meaning acts as a blind one does, at `s` and at `s` in another environment, it is blind
too. -/
theorem EnvBlind.of_eq {run : State → StepOutcome} {s e : State} {o o' : StepOutcome}
    (h : EnvBlind run) (ho : o = run s) (ho' : o' = run (s.inEnv e)) : o' = outcomeInEnv e o := by
  rw [ho, ho']
  exact h s e

theorem EnvBlind.after {run : State → StepOutcome} {f : State → State} (h : EnvBlind run)
    (hf : EnvBlindUpdate f) : EnvBlind fun s => run (f s) := by
  intro s e
  beta_reduce
  rw [hf]
  exact h (f s) e

theorem envBlind_readReg {r : Reg} {k : State → Word → StepOutcome}
    (hk : ∀ v, EnvBlind fun s => k s v) : EnvBlind fun s => readReg s r (k s) := by
  intro s e
  cases hv : s.regs.get r with
  | value v => exact (hk v).of_eq (readReg_value _ hv) (readReg_value (s := s.inEnv e) _ hv)
  | unwritten =>
    exact (envBlind_raise _).of_eq (readReg_unwritten _ hv) (readReg_unwritten (s := s.inEnv e) _ hv)

theorem envBlind_shiftCount {n : Nat} {b : BitVec n} {k : State → Nat → StepOutcome}
    (hk : ∀ c, EnvBlind fun s => k s c) : EnvBlind fun s => shiftCount s b (k s) := by
  intro s e
  rcases Nat.lt_or_ge b.toNat n with hb | hb
  · exact (hk _).of_eq (shiftCount_inRange _ _ _ hb) (shiftCount_inRange _ _ _ hb)
  · cases hc : s.cfg.shiftOversize with
    | fault =>
      exact (envBlind_raise _).of_eq (shiftCount_fault _ hb hc)
        (shiftCount_fault (s := s.inEnv e) _ hb hc)
    | mask =>
      exact (hk _).of_eq (shiftCount_mask _ hb hc) (shiftCount_mask (s := s.inEnv e) _ hb hc)

theorem envBlind_jump (d : Int) : EnvBlind fun s => jump s d := by
  intro s e
  rcases lt_or_ge (jumpTarget s d) 0 with ht | ht
  · exact (envBlind_raise _).of_eq (if_pos ht) (if_pos ht)
  · have hgo (n : Nat) : EnvBlind fun s => .next { s with pc := n } := envBlind_next fun _ _ => rfl
    exact (hgo _).of_eq (if_neg (Int.not_lt.2 ht)) (if_neg (Int.not_lt.2 ht))

theorem envBlind_branch (taken : Bool) (offset : BitVec 16) : EnvBlind fun s => branch s taken offset := by
  cases taken with
  | false => exact envBlind_next fun _ _ => rfl
  | true => exact envBlind_jump offset.toInt

theorem envBlind_readMem {ea : Word} {n : Nat} {kind : AccessKind} {k : State → Word → StepOutcome}
    (hk : ∀ v, EnvBlind fun s => k s v) : EnvBlind fun s => readMem s ea n kind (k s) := by
  intro s e
  cases ha : s.admits ea n kind with
  | false =>
    exact (envBlind_raise _).of_eq (readMem_refused _ ha) (readMem_refused (s := s.inEnv e) _ ha)
  | true =>
    cases hb : Memory.readBytes s.mem ea.toNat n with
    | none =>
      exact (envBlind_raise _).of_eq (readMem_unwritten _ ha hb)
        (readMem_unwritten (s := s.inEnv e) _ ha hb)
    | some bs =>
      exact (hk _).of_eq (readMem_bytes _ ha hb) (readMem_bytes (s := s.inEnv e) _ ha hb)

theorem envBlind_writeMem {ea v : Word} {n : Nat} {k : State → StepOutcome} (hk : EnvBlind k) :
    EnvBlind fun s => writeMem s ea n v k := by
  intro s e
  cases ha : s.admits ea n .write with
  | false =>
    exact (envBlind_raise _).of_eq (writeMem_refused _ _ ha) (writeMem_refused (s := s.inEnv e) _ _ ha)
  | true =>
    have hstore : EnvBlind fun s => k (s.store ea n v) := hk.after fun _ _ => rfl
    exact hstore.of_eq (writeMem_admitted _ _ ha) (writeMem_admitted (s := s.inEnv e) _ _ ha)

/-- The atomic primitive is a read that goes on with a store, or without one. -/
theorem envBlind_atomicRmw {ea : Word} {n : Nat} {f : Word → Option Word}
    {k : State → Word → StepOutcome} (hk : ∀ old, EnvBlind fun s => k s old) :
    EnvBlind fun s => atomicRmw s ea n f k := by
  refine envBlind_readMem fun old => ?_
  cases f old with
  | some v => exact (hk old).after fun _ _ => rfl
  | none => exact hk old

theorem envBlind_platformLoad {supported : State → Bool} {answer : State → Option Word} {sub : Nat}
    {imm : Half} {d : Reg} (hs : ∀ s e, supported (s.inEnv e) = supported s)
    (ha : ∀ s e, answer (s.inEnv e) = answer s) :
    EnvBlind fun s => platformValue s (supported s) sub imm (answer s) fun v =>
      .next (s.writeBackWide d v) := by
  intro s e
  beta_reduce
  rw [hs, ha]
  cases supported s with
  | false => rfl
  | true => cases answer s <;> rfl

/-! #### Calls, EXIT and the legacy instructions -/

theorem envBlind_callLocal (offset : BitVec 16) (imm : Half) : EnvBlind (execCallLocal offset imm) := by
  intro s e
  rcases Nat.lt_or_ge s.frames.length s.cfg.maxCallDepth with hd | hd
  · rcases lt_or_ge (jumpTarget s (localDisplacement s.cfg.localCallField offset imm)) 0
      with ht | ht
    · exact (envBlind_raise _).of_eq (callLocal_belowZero hd ht)
        (callLocal_belowZero (s := s.inEnv e) hd ht)
    · have henter (n : Nat) : EnvBlind fun s => .next (enterCallee s n) := envBlind_next fun _ _ => rfl
      exact (henter _).of_eq (callLocal_enters hd ht) (callLocal_enters (s := s.inEnv e) hd ht)
  · exact (envBlind_raise _).of_eq (callLocal_tooDeep offset imm hd)
      (callLocal_tooDeep (s := s.inEnv e) offset imm hd)

theorem envBlind_exit : EnvBlind execExit := by
  intro s e
  cases hf : s.frames with
  | nil =>
    have hend : EnvBlind fun s => readReg s .r0 fun v =>
        .next { s with status := .exited v, pc := s.pc + 1 } :=
      envBlind_readReg fun _ => envBlind_next fun _ _ => rfl
    exact hend.of_eq (by rw [execExit, hf]) (by rw [execExit, State.inEnv, hf])
  | cons f rest =>
    cases hc : clobberedRegister s f with
    | some r =>
      exact (envBlind_raise _).of_eq (exit_clobbered hf hc) (exit_clobbered (s := s.inEnv e) hf hc)
    | none =>
      have hleave : EnvBlind fun s => .next (leaveCallee s f rest) := envBlind_next fun _ _ => rfl
      exact hleave.of_eq (exit_returns hf hc) (exit_returns (s := s.inEnv e) hf hc)

theorem envBlind_legacyAccess (fields : LegacyFields) : EnvBlind (legacyAccess fields) := by
  intro s e
  have harch : (s.inEnv e).arch = s.arch := rfl
  have hpacket : (s.inEnv e).cfg.legacyPacket = s.cfg.legacyPacket := rfl
  unfold legacyAccess
  rw [harch, hpacket]
  cases s.cfg.legacyPacket with
  | none => rfl
  | some fn =>
    dsimp only
    cases legacyAnswer fn fields s.arch <;> rfl

/-! #### Every instruction -/

/-- Every instruction but a helper call is blind to the model's own fields. -/
theorem exec_envBlind {i : Instr} (hi : familyOf i ≠ .helperCall) : EnvBlind (exec i) := by
  cases i with
  | add32K | sub32K | mul32K | div32K | or32K | and32K | mod32K | xor32K | neg32
  | add64K | sub64K | mul64K | div64K | or64K | and64K | mod64K | xor64K | neg64
  | mov32X | mov64X | le16 | le32 | le64 | be16 | be32 | be64 =>
    exact envBlind_readReg fun _ => envBlind_next fun _ _ => rfl
  | add32X | sub32X | mul32X | div32X | or32X | and32X | mod32X | xor32X
  | add64X | sub64X | mul64X | div64X | or64X | and64X | mod64X | xor64X =>
    exact envBlind_readReg fun _ => envBlind_readReg fun _ => envBlind_next fun _ _ => rfl
  | lsh32K | rsh32K | arsh32K | lsh64K | rsh64K | arsh64K =>
    exact envBlind_readReg fun _ => envBlind_shiftCount fun _ => envBlind_next fun _ _ => rfl
  | lsh32X | rsh32X | arsh32X | lsh64X | rsh64X | arsh64X =>
    exact envBlind_readReg fun _ => envBlind_readReg fun _ =>
      envBlind_shiftCount fun _ => envBlind_next fun _ _ => rfl
  | mov32K | mov64K | lddw => exact envBlind_next fun _ _ => rfl
  | ja offset => exact envBlind_jump offset.toInt
  | jeqK | jgtK | jgeK | jsetK | jneK | jsgtK | jsgeK | jltK | jleK | jsltK | jsleK
  | jeq32K | jgt32K | jge32K | jset32K | jne32K | jsgt32K | jsge32K | jlt32K | jle32K | jslt32K
  | jsle32K =>
    exact envBlind_readReg fun _ => envBlind_branch _ _
  | jeqX | jgtX | jgeX | jsetX | jneX | jsgtX | jsgeX | jltX | jleX | jsltX | jsleX
  | jeq32X | jgt32X | jge32X | jset32X | jne32X | jsgt32X | jsge32X | jlt32X | jle32X | jslt32X
  | jsle32X =>
    exact envBlind_readReg fun _ => envBlind_readReg fun _ => envBlind_branch _ _
  | callHelper | callHelperSpecific => exact absurd rfl hi
  | callLocal offset imm => exact envBlind_callLocal offset imm
  | exit => exact envBlind_exit
  | ldxw | ldxh | ldxb | ldxdw =>
    exact envBlind_readReg fun _ => envBlind_readMem fun _ => envBlind_next fun _ _ => rfl
  | stw | sth | stb | stdw =>
    exact envBlind_readReg fun _ => envBlind_writeMem (envBlind_next fun _ _ => rfl)
  | stxw | stxh | stxb | stxdw =>
    exact envBlind_readReg fun _ => envBlind_readReg fun _ =>
      envBlind_writeMem (envBlind_next fun _ _ => rfl)
  | atomicAdd32 | atomicOr32 | atomicAnd32 | atomicXor32
  | atomicFetchAdd32 | atomicFetchOr32 | atomicFetchAnd32 | atomicFetchXor32 | atomicXchg32
  | atomicAdd64 | atomicOr64 | atomicAnd64 | atomicXor64
  | atomicFetchAdd64 | atomicFetchOr64 | atomicFetchAnd64 | atomicFetchXor64 | atomicXchg64 =>
    exact envBlind_readReg fun _ => envBlind_readReg fun _ =>
      envBlind_atomicRmw fun _ => envBlind_next fun _ _ => rfl
  | atomicCmpxchg32 | atomicCmpxchg64 =>
    exact envBlind_readReg fun _ => envBlind_readReg fun _ => envBlind_readReg fun _ =>
      envBlind_atomicRmw fun _ => envBlind_next fun _ _ => rfl
  | ldMapFd | ldMapValueFd | ldVarAddr | ldCodeAddr | ldMapIdx | ldMapValueIdx =>
    exact envBlind_platformLoad (fun _ _ => rfl) fun _ _ => rfl
  | ldAbsW | ldAbsH | ldAbsB | ldAbsDw | ldIndW | ldIndH | ldIndB | ldIndDw =>
    exact envBlind_legacyAccess _

/-- Settles O21: two arithmetic runs on equal operands write the same value, and an instruction that is
blind to the model's own fields neither sees nor changes them. -/
theorem arithmeticDependsOnItsOperandsOnly : Obligations.ArithmeticDependsOnItsOperandsOnly := by
  refine ⟨fun i s1 s2 t1 t2 d hf hcfg hreads h1 h2 hrun1 hrun2 hd hne =>
    exec_sameWrite hf hcfg hreads hd t1 t2 h1 h2 hrun1 hrun2 hne,
    fun i s t choices agentWrites turns hf h => ?_⟩
  have hblind := exec_envBlind hf
  obtain ⟨hchoices, hwrites, hturns⟩ := hblind.keeps h
  have hmoved := hblind s { s with choices := choices, agentWrites := agentWrites, turns := turns }
  rw [h] at hmoved
  exact ⟨hchoices, hwrites, hturns, hmoved⟩

end Sys2Proof.Machine
end

section
/-! PROOF. The results of the 64-bit arithmetic instructions (`41_alu64.md` R150 to R170): what the two
64-bit operand forms do on operands that hold values. The operators' own values are those shown at every
width in `arithmetic_results`. -/

namespace Sys2Proof.Machine

open Sys2Proof

/-! ### The operand forms on operands that hold values -/

section

variable {s : State} {dst src : Reg} {a b : Word}

theorem arith64K_value (imm : Half) (op : Word → Word → Word) (ha : s.regs.get dst = .value a) :
    arith64K op dst imm s = .next (s.writeBack dst (op a (sext64 imm))) :=
  readReg_value _ ha

theorem arith64X_value (op : Word → Word → Word) (ha : s.regs.get dst = .value a)
    (hb : s.regs.get src = .value b) :
    arith64X op dst src s = .next (s.writeBack dst (op a b)) :=
  (readReg_value _ ha).trans (readReg_value _ hb)

end

/-! ### The results (R150) -/

/-- Settles O23: the sixteen are the two 64-bit forms with their operators. -/
theorem arithmetic64Results : Obligations.Arithmetic64Results := by
  intro s dst a ha out
  refine ⟨fun imm => ?_, fun src b hb => ?_⟩
  · exact arithmetic_results out (arith64K · dst imm s) fun op => arith64K_value imm op ha
  · exact arithmetic_results out (arith64X · dst src s) fun op => arith64X_value op ha hb

end Sys2Proof.Machine
end

section
/-! PROOF. The results of the byte swap instructions (`42_byteswap.md` R180 to R186). The idea: both
conversions keep the low part of the operand in one host byte order and reverse its bytes in the other;
the reversals of the model, which cut bytes out of the low part, are tied to the byte digits of the whole
operand. -/

namespace Sys2Proof.Machine

open Sys2Proof

/-! ### The two conversions (R180) -/

section

variable {n : Nat} {e : Endian} (swap : BitVec n → BitVec n) (v : BitVec n)

theorem toLittle_of_little (he : e = .little) : toLittle e swap v = v := by rw [he, toLittle]

theorem toLittle_of_big (he : e = .big) : toLittle e swap v = swap v := by rw [he, toLittle]

theorem toBig_of_little (he : e = .little) : toBig e swap v = swap v := by rw [he, toBig]

theorem toBig_of_big (he : e = .big) : toBig e swap v = v := by rw [he, toBig]

end

/-! ### Reversing the bytes of the low part (R9) -/

/-- The byte of a word with weight `256 ^ k`. -/
def byteDigit (a : Word) (k : Nat) : Byte := BitVec.ofNat 8 (a.toNat / 256 ^ k)

/-- A byte cut out of the low part of a word is a byte of the word. -/
theorem extractLsb'_low_eq_byteDigit (a : Word) {n : Nat} (k : Nat) (hk : 8 * k + 8 ≤ n) :
    (a.setWidth n).extractLsb' (8 * k) 8 = byteDigit a k := by
  rw [BitVec.extractLsb'_setWidth_of_le hk, BitVec.extractLsb', Nat.shiftRight_eq_div_pow, pow_mul]
  rfl

section

variable (a : Word)

theorem swap16_low : swap16 (a.setWidth 16) = byteDigit a 0 ++ byteDigit a 1 := by
  have digit (k : Nat) (hk : 8 * k + 8 ≤ 16) := extractLsb'_low_eq_byteDigit a k hk
  rw [← digit 0 (by decide), ← digit 1 (by decide)]
  rfl

theorem swap32_low : swap32 (a.setWidth 32) =
    byteDigit a 0 ++ byteDigit a 1 ++ byteDigit a 2 ++ byteDigit a 3 := by
  have digit (k : Nat) (hk : 8 * k + 8 ≤ 32) := extractLsb'_low_eq_byteDigit a k hk
  rw [← digit 0 (by decide), ← digit 1 (by decide), ← digit 2 (by decide), ← digit 3 (by decide)]
  rfl

theorem swap64_low : swap64 (a.setWidth 64) =
    byteDigit a 0 ++ byteDigit a 1 ++ byteDigit a 2 ++ byteDigit a 3 ++
      byteDigit a 4 ++ byteDigit a 5 ++ byteDigit a 6 ++ byteDigit a 7 := by
  have digit (k : Nat) (hk : 8 * k + 8 ≤ 64) := extractLsb'_low_eq_byteDigit a k hk
  rw [← digit 0 (by decide), ← digit 1 (by decide), ← digit 2 (by decide), ← digit 3 (by decide),
    ← digit 4 (by decide), ← digit 5 (by decide), ← digit 6 (by decide), ← digit 7 (by decide)]
  rfl

end

/-! ### The instructions on an operand that holds a value -/

section

variable {s : State} {dst : Reg} {a : Word} {n : Nat} {convert : BitVec n → BitVec n}

theorem byteSwap_value {v : BitVec n} (ha : s.regs.get dst = .value a)
    (hv : convert (a.setWidth n) = v) :
    byteSwap convert dst s = .next (s.writeBack dst (v.setWidth 64)) :=
  (readReg_value _ ha).trans (by rw [hv])

/-- A conversion that is the identity keeps the low bits, zero-extended. -/
theorem byteSwap_keep (ha : s.regs.get dst = .value a) (hid : ∀ v, convert v = v) :
    byteSwap convert dst s = .next (s.writeBack dst (BitVec.ofNat 64 (a.toNat % 2 ^ n))) := by
  have hlow : (a.setWidth n).setWidth 64 = BitVec.ofNat 64 (a.toNat % 2 ^ n) :=
    BitVec.eq_of_toNat_eq (by simp)
  rw [byteSwap_value ha (hid _), hlow]

/-- At the full width the identity writes the operand back. -/
theorem byteSwap_keep64 {convert : Word → Word} (ha : s.regs.get dst = .value a)
    (hid : ∀ v, convert v = v) : byteSwap convert dst s = .next (s.writeBack dst a) :=
  (byteSwap_value ha (hid _)).trans (by rw [BitVec.setWidth_eq, BitVec.setWidth_eq])

/-- At the full width there is nothing to extend. -/
theorem byteSwap_value64 {convert : Word → Word} {v : Word} (ha : s.regs.get dst = .value a)
    (hv : convert (a.setWidth 64) = v) : byteSwap convert dst s = .next (s.writeBack dst v) :=
  (byteSwap_value ha hv).trans (by rw [BitVec.setWidth_eq])

end

/-- Settles O29: in each byte order one conversion is the identity and the other is the reversal. -/
theorem byteSwapResults : Obligations.ByteSwapResults := by
  intro s dst a ha
  refine ⟨fun he => ?_, fun he => ?_⟩
  · have keep {n : Nat} (swap : BitVec n → BitVec n) := (toLittle_of_little swap · he)
    have reverse {n : Nat} (swap : BitVec n → BitVec n) := toBig_of_little swap (a.setWidth n) he
    exact ⟨byteSwap_keep ha (keep swap16), byteSwap_keep ha (keep swap32),
      byteSwap_keep64 ha (keep swap64), byteSwap_value ha ((reverse swap16).trans (swap16_low a)),
      byteSwap_value ha ((reverse swap32).trans (swap32_low a)),
      byteSwap_value64 ha ((reverse swap64).trans (swap64_low a))⟩
  · have keep {n : Nat} (swap : BitVec n → BitVec n) := (toBig_of_big swap · he)
    have reverse {n : Nat} (swap : BitVec n → BitVec n) := toLittle_of_big swap (a.setWidth n) he
    exact ⟨byteSwap_value ha ((reverse swap16).trans (swap16_low a)),
      byteSwap_value ha ((reverse swap32).trans (swap32_low a)),
      byteSwap_value64 ha ((reverse swap64).trans (swap64_low a)), byteSwap_keep ha (keep swap16),
      byteSwap_keep ha (keep swap32), byteSwap_keep64 ha (keep swap64)⟩

end Sys2Proof.Machine
end

section
/-! PROOF. The results of the conditional jumps (`43_jump64.md` R190 to R214, `44_jump32.md` R220 to R242).
The idea: where a branch leads depends on the target alone, an operand form hands its comparison's answer
on to the branch, and the eleven comparisons are the same at every width. -/

namespace Sys2Proof.Machine

open Sys2Proof

/-! ### Where a branch leads (R190) -/

section

variable {s : State} {offset : BitVec 16}

theorem branch_of_target_nonneg (h : 0 ≤ (s.pc : Int) + 1 + offset.toInt) (taken : Bool) :
    branch s taken offset =
      if taken then .next { s with pc := ((s.pc : Int) + 1 + offset.toInt).toNat }
      else .next { s with pc := s.pc + 1 } := by
  cases taken with
  | false => rfl
  | true => exact (jump_eq s offset.toInt).trans (if_neg (Int.not_lt.2 h))

theorem branch_of_target_neg (h : (s.pc : Int) + 1 + offset.toInt < 0) (taken : Bool) :
    branch s taken offset =
      if taken then .next { s with status := .faulted (.pcOutOfRange (s.pc + 1 + offset.toInt)) }
      else .next { s with pc := s.pc + 1 } := by
  cases taken with
  | false => rfl
  | true => exact (jump_eq s offset.toInt).trans (if_pos h)

end

/-! ### The eleven comparisons (R214, R220) -/

/-- For each comparison of the spec, in the order of its table, the form `run` of that comparison answers
`out` of whether the comparison of `a` with `b` holds. -/
def AnswersComparisons {n : Nat} (run : (BitVec n → BitVec n → Bool) → StepOutcome)
    (out : Bool → StepOutcome) (a b : BitVec n) : Prop :=
  run condEq = out (decide (a = b)) ∧
  run condGt = out (decide (a.toNat > b.toNat)) ∧
  run condGe = out (decide (a.toNat ≥ b.toNat)) ∧
  run condSet = out (decide (a &&& b ≠ 0)) ∧
  run condNe = out (decide (a ≠ b)) ∧
  run condSgt = out (decide (a.toInt > b.toInt)) ∧
  run condSge = out (decide (a.toInt ≥ b.toInt)) ∧
  run condLt = out (decide (a.toNat < b.toNat)) ∧
  run condLe = out (decide (a.toNat ≤ b.toNat)) ∧
  run condSlt = out (decide (a.toInt < b.toInt)) ∧
  run condSle = out (decide (a.toInt ≤ b.toInt))

/-- It is enough that the form hands on the answer of any comparison. -/
theorem answersComparisons_of_eq {n : Nat} {run : (BitVec n → BitVec n → Bool) → StepOutcome}
    {out : Bool → StepOutcome} {a b : BitVec n} (hrun : ∀ cond, run cond = out (cond a b)) :
    AnswersComparisons run out a b :=
  ⟨hrun _, hrun _, hrun _, hrun _, hrun _, hrun _, hrun _, hrun _, hrun _, hrun _, hrun _⟩

/-! ### The operand forms on operands that hold values -/

section

variable {s : State} {dst src : Reg} {offset : BitVec 16} {a b : Word}

theorem jump64K_value (imm : Half) (cond : Word → Word → Bool) (ha : s.regs.get dst = .value a) :
    jump64K cond dst offset imm s = branch s (cond a (sext64 imm)) offset :=
  readReg_value _ ha

theorem jump64X_value (cond : Word → Word → Bool) (ha : s.regs.get dst = .value a)
    (hb : s.regs.get src = .value b) :
    jump64X cond dst src offset s = branch s (cond a b) offset :=
  (readReg_value _ ha).trans (readReg_value _ hb)

theorem jump32K_value (imm : Half) (cond : Half → Half → Bool) (ha : s.regs.get dst = .value a) :
    jump32K cond dst offset imm s = branch s (cond (low32 a) imm) offset :=
  readReg_value _ ha

theorem jump32X_value (cond : Half → Half → Bool) (ha : s.regs.get dst = .value a)
    (hb : s.regs.get src = .value b) :
    jump32X cond dst src offset s = branch s (cond (low32 a) (low32 b)) offset :=
  (readReg_value _ ha).trans (readReg_value _ hb)

end

/-! ### The results, wherever the branch leads -/

section

variable {s : State} {dst : Reg} {offset : BitVec 16} {a : Word} {out : Bool → StepOutcome}

theorem jump64_answers (ha : s.regs.get dst = .value a)
    (hout : ∀ taken, branch s taken offset = out taken) :
    (∀ imm : Half, AnswersComparisons (jump64K · dst offset imm s) out a (sext64 imm)) ∧
    (∀ (src : Reg) (b : Word), s.regs.get src = .value b →
      AnswersComparisons (jump64X · dst src offset s) out a b) :=
  ⟨fun imm => answersComparisons_of_eq fun cond => (jump64K_value imm cond ha).trans (hout _),
    fun _ _ hb => answersComparisons_of_eq fun cond => (jump64X_value cond ha hb).trans (hout _)⟩

theorem jump32_answers (ha : s.regs.get dst = .value a)
    (hout : ∀ taken, branch s taken offset = out taken) :
    (∀ imm : Half, AnswersComparisons (jump32K · dst offset imm s) out (low32 a) imm) ∧
    (∀ (src : Reg) (b : Word), s.regs.get src = .value b →
      AnswersComparisons (jump32X · dst src offset s) out (low32 a) (low32 b)) :=
  ⟨fun imm => answersComparisons_of_eq fun cond => (jump32K_value imm cond ha).trans (hout _),
    fun _ _ hb => answersComparisons_of_eq fun cond => (jump32X_value cond ha hb).trans (hout _)⟩

end

/-- Settles O30: the 22 are the two 64-bit forms, and the branch leads to the target or the next slot. -/
theorem conditionalJumps64Go : Obligations.ConditionalJumps64Go :=
  fun _ _ _ _ ha htarget => jump64_answers ha (branch_of_target_nonneg htarget)

/-- Settles O31: the 22 are the two 32-bit forms, and the branch leads to the target or the next slot. -/
theorem conditionalJumps32Go : Obligations.ConditionalJumps32Go :=
  fun _ _ _ _ ha htarget => jump32_answers ha (branch_of_target_nonneg htarget)

/-- Settles O32: the 44 are the four forms, and the branch faults or leads to the next slot. -/
theorem conditionalJumpsBelowZeroFault : Obligations.ConditionalJumpsBelowZeroFault :=
  ⟨fun _ _ _ _ ha htarget => jump64_answers ha (branch_of_target_neg htarget),
    fun _ _ _ _ ha htarget => jump32_answers ha (branch_of_target_neg htarget)⟩

end Sys2Proof.Machine
end

section
/-! PROOF. The faults of a helper call, and what a helper's byte edits do to memory
(`45_call_exit.md` R247, R248, R250; `20_memory.md` R58). -/

namespace Sys2Proof.Machine

open Sys2Proof

/-! ### Byte edits (R248) -/

/-- One edit decides the byte it names and no other. -/
theorem Memory.read_edit (m : Memory) (e : MemEdit) (x : Nat) :
    Memory.read (Memory.edit m e) x = if e.addr.toNat = x then e.cell else Memory.read m x := by
  cases hcell : e.cell with
  | some b =>
    simp only [Memory.edit, hcell]
    split
    · next hx => exact hx ▸ Memory.read_write_same m _ b
    · next hx => exact Memory.read_write_other m _ x b (Ne.symm hx)
  | none =>
    simp only [Memory.edit, hcell]
    split
    · next hx => exact Memory.read_forget_inside m _ 1 x (by omega) (by omega)
    · next hx => exact Memory.read_forget_outside m _ 1 x (by omega)

@[simp] theorem Memory.editAll_cons (m : Memory) (e : MemEdit) (es : List MemEdit) :
    Memory.editAll m (e :: es) = Memory.editAll (Memory.edit m e) es := rfl

@[simp] theorem Memory.editAll_concat (m : Memory) (es : List MemEdit) (e : MemEdit) :
    Memory.editAll m (es ++ [e]) = Memory.edit (Memory.editAll m es) e := List.foldl_concat ..

theorem Memory.read_editAll_other {m : Memory} {es : List MemEdit} {x : Nat}
    (hx : ∀ e ∈ es, e.addr.toNat ≠ x) :
    Memory.read (Memory.editAll m es) x = Memory.read m x := by
  induction es generalizing m with
  | nil => rfl
  | cons e es ih =>
    obtain ⟨he, hes⟩ := List.forall_mem_cons.1 hx
    rw [Memory.editAll_cons, ih hes, Memory.read_edit, if_neg he]

/-- Settles O36: edits of other bytes pass one by one, and the last edit is the last to be applied. -/
theorem platformEditsReachOneByte : Obligations.PlatformEditsReachOneByte := by
  refine fun m es => ⟨fun x hx => Memory.read_editAll_other hx, fun e => ?_⟩
  rw [Memory.editAll_concat, Memory.read_edit, if_pos rfl]

/-! ### The faults of a helper call, in the order in which they are looked for (R247, R344) -/

section

variable {table : List HelperEntry} {imm : Half} {s : State} {h : HelperEntry}

theorem helperCall_absent (space : HelperSpace)
    (hfind : table.find? (fun e => decide (e.number = imm.toInt)) = none) :
    helperCall space table imm s = raise s (.unknownHelper space imm.toInt) := by
  simp only [helperCall, hfind]

theorem helperCall_unwritten (space : HelperSpace) {before after : List Reg} {r : Reg}
    (hfind : table.find? (fun e => decide (e.number = imm.toInt)) = some h)
    (hargs : argumentRegisters.take h.nargs.val = before ++ r :: after)
    (hb : ∀ q ∈ before, s.regs.get q ≠ .unwritten) (hr : s.regs.get r = .unwritten) :
    helperCall space table imm s = raise s (.unwrittenRegister r) := by
  simp only [helperCall, hfind, hargs, readRegs_firstUnwritten after _ hb hr]

theorem helperCall_faulted (space : HelperSpace) {args : List Word} {info : Nat}
    (hfind : table.find? (fun e => decide (e.number = imm.toInt)) = some h)
    (hargs : (argumentRegisters.take h.nargs.val).map s.regs.get = args.map RegCell.value)
    (hout : nextHelperOutcome s h.run args = .faulted info) :
    helperCall space table imm s = raise s (.helperFault imm.toInt info) := by
  simp only [helperCall, hfind, readRegs_values _ hargs, hout]

end

/-- Settles O35: both instructions are `helperCall`, each on the table of its own numbering space. -/
theorem helperCallsFault : Obligations.HelperCallsFault :=
  fun _ _ =>
    ⟨helperCall_absent .agnostic,
      fun _ hfind => ⟨fun _ _ _ hargs => helperCall_unwritten .agnostic hfind hargs,
        fun _ _ hargs => helperCall_faulted .agnostic hfind hargs⟩,
      helperCall_absent .specific,
      fun _ hfind => ⟨fun _ _ _ hargs => helperCall_unwritten .specific hfind hargs,
        fun _ _ hargs => helperCall_faulted .specific hfind hargs⟩⟩

end Sys2Proof.Machine
end

section
/-! PROOF. The six 64-bit immediates that ask the platform (`48_lddw.md` R312 to R318). Each is one
`platformValue`, so what it does is said once for the three ways such a question ends; what is left to each
instruction is what its own platform function answers. -/

namespace Sys2Proof.Machine

open Sys2Proof

/-! ### The three ends of a platform value (R310, R318, R344) -/

section

variable {s : State} {supported : Bool} {imm : Half} {answer : Option Word} {v : Word} (sub : Nat)
  (k : Word → StepOutcome)

theorem platformValue_answered (hs : supported = true) (ha : answer = some v) :
    platformValue s supported sub imm answer k = k v := by
  subst hs ha
  rfl

theorem platformValue_unanswered (hs : supported = true) (ha : answer = none) :
    platformValue s supported sub imm answer k = raise s (.badPlatformReference sub imm.toInt) := by
  subst hs ha
  rfl

theorem platformValue_unsupported (hs : supported = false) :
    platformValue s supported sub imm answer k = raise s (.unsupportedFeature sub) := by
  subst hs
  rfl

end

/-! ### Answers that take more than one lookup -/

section

variable {c : Config} {map : Option Word} {m v : Word} {nextImm : Half}

theorem mapValueAt_region (hmap : map = some m) (hmva : c.mva.lookup m = some v) :
    mapValueAt c map nextImm = some (v + zext64 nextImm) := by
  simp only [mapValueAt, hmap, hmva]

theorem mapValueAt_noMap (hmap : map = none) : mapValueAt c map nextImm = none := by
  simp only [mapValueAt, hmap]

theorem mapValueAt_noRegion (hmap : map = some m) (hmva : c.mva.lookup m = none) :
    mapValueAt c map nextImm = none := by
  simp only [mapValueAt, hmap, hmva]

/-- A platform with code addresses answers with the address of the entry it finds. -/
theorem codeAddrAt_eq {table : List CodeAddrEntry} {found : Option CodeAddrEntry} {pc : Nat} {imm : Half}
    (htable : c.codeAddr = some table)
    (hfind : table.find? (fun e => decide (e.pc = pc) && decide (e.offset = imm.toInt)) = found) :
    codeAddrAt c pc imm = found.map CodeAddrEntry.addr := by
  subst hfind
  simp only [codeAddrAt, htable]
  cases table.find? _ <;> rfl

end

/-- Settles O54: a supported question with an answer goes on to write the answer back. -/
theorem platformLoadResults : Obligations.PlatformLoadResults := by
  intro s dst imm nextImm m v out
  refine ⟨fun hs ha => ?mapFd, fun hs ha => ?mapIdx, fun hs ha => ?varAddr,
    fun hs hmap hmva => ?mapValueFd, fun hs hmap hmva => ?mapValueIdx, fun table e htable he => ?codeAddr⟩
  case mapFd => exact platformValue_answered 1 out hs ha
  case mapIdx => exact platformValue_answered 5 out hs ha
  case varAddr => exact platformValue_answered 3 out hs ha
  case mapValueFd => exact platformValue_answered 2 out hs (mapValueAt_region hmap hmva)
  case mapValueIdx => exact platformValue_answered 6 out hs (mapValueAt_region hmap hmva)
  case codeAddr =>
    exact platformValue_answered 4 out (Option.isSome_of_mem htable) (codeAddrAt_eq htable he)

/-- Settles O55: the feature is asked for before the answer, and the lack of either is raised. -/
theorem platformLoadFaults : Obligations.PlatformLoadFaults := by
  intro s dst imm nextImm m unsupported noAnswer
  refine ⟨fun hs => ?noMaps, fun hs => ?noVariables, fun hnone => ?noCodeAddr, fun hs => ?maps,
    fun hs ha => ?noVariable, fun table htable hnone => ?noEntry⟩
  case noMaps =>
    exact ⟨platformValue_unsupported 1 _ hs, platformValue_unsupported 2 _ hs,
      platformValue_unsupported 5 _ hs, platformValue_unsupported 6 _ hs⟩
  case noVariables => exact platformValue_unsupported 3 _ hs
  case noCodeAddr => exact platformValue_unsupported 4 _ (by rw [hnone, Option.isSome_none])
  case maps =>
    refine ⟨fun hmap => ⟨?_, ?_⟩, fun hmap hmva => ?_, fun hmap => ⟨?_, ?_⟩, fun hmap hmva => ?_⟩
    · exact platformValue_unanswered 1 _ hs hmap
    · exact platformValue_unanswered 2 _ hs (mapValueAt_noMap hmap)
    · exact platformValue_unanswered 2 _ hs (mapValueAt_noRegion hmap hmva)
    · exact platformValue_unanswered 5 _ hs hmap
    · exact platformValue_unanswered 6 _ hs (mapValueAt_noMap hmap)
    · exact platformValue_unanswered 6 _ hs (mapValueAt_noRegion hmap hmva)
  case noVariable => exact platformValue_unanswered 3 _ hs ha
  case noEntry =>
    exact platformValue_unanswered 4 _ (Option.isSome_of_mem htable) (codeAddrAt_eq htable hnone)

end Sys2Proof.Machine
end

section
/-! PROOF. The legacy packet access instructions (`49_legacy_packet.md` R325 to R333). All eight are
`legacyAccess` of their own opcode and fields, so what each does is said once for the three ways that
operation ends: no platform function, its next state, its fault. -/

namespace Sys2Proof.Machine

open Sys2Proof

section

variable {s : State} {fields : LegacyFields} {fn : LegacyFunction}

/-! ### The three ends of a legacy access (R325, R340) -/

theorem legacyAccess_unsupported (hfn : s.cfg.legacyPacket = none) :
    legacyAccess fields s = raise s (.illegalInstruction s.pc .legacyPacketUnsupported) := by
  simp only [legacyAccess, hfn]

theorem legacyAccess_answered {regs : RegFile} {pc : Nat} {frames : List Frame} {exitValue : Option Word}
    {edits : List MemEdit} {regions : List Region} (hfn : s.cfg.legacyPacket = some fn)
    (hans : legacyAnswer fn fields s.arch = .next regs pc frames exitValue edits regions) :
    legacyAccess fields s = .next { s with
      regs := regs, pc := pc, frames := frames, status := exitValue.elim .running .exited
      mem := Memory.editAll s.mem edits, grantedRegions := regions } := by
  simp only [legacyAccess, hfn, hans]
  cases exitValue <;> rfl

theorem legacyAccess_faulted {f : FaultInfo} (hfn : s.cfg.legacyPacket = some fn)
    (hans : legacyAnswer fn fields s.arch = .fault f) : legacyAccess fields s = raise s f := by
  simp only [legacyAccess, hfn, hans]

/-- The platform function answers with the first line that speaks of these fields and this state. -/
theorem legacyAnswer_listed {arch : ArchState} {c : LegacyCase}
    (hfind : fn.cases.find? (fun c => decide (c.fields = fields) && decide (c.arch = arch)) = some c) :
    legacyAnswer fn fields arch = c.answer := by
  simp only [legacyAnswer, hfind]

end

/-- Settles O56: whatever the opcode, the access ends as the platform function answers for that opcode, and
each of the eight is the access of its own. -/
theorem legacyAccessTakesThePlatformsAnswer : Obligations.LegacyAccessTakesThePlatformsAnswer := by
  intro s dst src offset imm fn hfn takes
  have access_takes (opcode : BitVec 8) :
      takes opcode (legacyAccess ⟨opcode, dst, src, offset, imm⟩ s) := by
    refine ⟨fun _ _ _ exitValue _ _ hans => ?_, fun _ hans => legacyAccess_faulted hfn hans,
      fun _ hfind => legacyAnswer_listed hfind⟩
    cases exitValue <;> exact legacyAccess_answered hfn hans
  exact ⟨access_takes 0x20, access_takes 0x28, access_takes 0x30, access_takes 0x38,
    access_takes 0x40, access_takes 0x48, access_takes 0x50, access_takes 0x58⟩

/-- Settles O57: without a platform function the access is refused whatever its opcode and fields. -/
theorem legacyAccessIsRefusedByDefault : Obligations.LegacyAccessIsRefusedByDefault := by
  intro s dst src offset imm hfn refused
  have access_refused (opcode : BitVec 8) :
      legacyAccess ⟨opcode, dst, src, offset, imm⟩ s = refused :=
    legacyAccess_unsupported hfn
  exact ⟨access_refused 0x20, access_refused 0x28, access_refused 0x30, access_refused 0x38,
    access_refused 0x40, access_refused 0x48, access_refused 0x50, access_refused 0x58⟩

end Sys2Proof.Machine
end
